-- ==== Sys2Proof/Word.lean ====
section
/-! DEFINITION. The byte and the line character of the BK640, and the integer arithmetic of section 4.4
(counts that saturate, counts that wrap, clamps, ceilings). -/

namespace Sys2Proof

/-- One byte of a frame, of a record image or of a port status. -/
abbrev Byte := BitVec 8

/-- One character of the sender line: nine data bits, the ninth (bit 8) marking an address character (3.1). -/
abbrev LineChar := BitVec 9

/-- The byte that carries `n` modulo 256. -/
abbrev byteOf (n : Nat) : Byte := BitVec.ofNat 8 n

/-- A count that saturates stays at its upper limit when incremented there (4.4). -/
def satInc (limit n : Nat) : Nat := min limit (n + 1)

/-- A count that wraps returns to 0 when incremented at its upper limit (4.4). -/
def wrapInc (limit n : Nat) : Nat := if n ≥ limit then 0 else n + 1

/-- The ceiling of a quotient (4.4). -/
def ceilDiv (n d : Nat) : Nat := (n + d - 1) / d

/-- A value clamped to a range of integers (4.4). -/
def clampInt (low high v : Int) : Int := max low (min high v)

/-- A value clamped to a range of natural numbers (4.4). -/
def clampNat (low high v : Nat) : Nat := max low (min high v)

/-- An integer as a two's complement number of 16 bits, as a notice value or a record field carries it. -/
def twos16 (v : Int) : Nat := (v % 65536).toNat

/-- A number of 16 bits read as signed (4.3, Chapter 11). -/
def signed16 (n : Nat) : Int := if n % 65536 < 32768 then ((n % 65536 : Nat) : Int) else ((n % 65536 : Nat) : Int) - 65536

/-- A former and a new code in one notice value: the former in the high byte, the new in the low byte (11.2). -/
def pairValue (former new : Nat) : Nat := former * 256 + new

end Sys2Proof
end

