-- ==== Sys2Proof/Syntax.lean ====
section
/-! DEFINITION. The commands of the BK640: one constructor of `Instr` for each row of spec/opcode_table.json,
with the operands the row's rules give it. Meaning is given in Sys2Proof/Machine alone. -/

namespace Sys2Proof

/-- The three client ports (1, 2.1). -/
inductive PortId where
  | cp0 | cp1 | cp2
  deriving DecidableEq, Repr

/-- The two motor bridges: channel 14 moves the step, channel 15 the awning (2.3). -/
inductive Bridge where
  | step | awning
  deriving DecidableEq, Repr

/-- The values that the two role straps of each port present at a power-on reset (R1). -/
structure Straps where
  cp0 : BitVec 2
  cp1 : BitVec 2
  cp2 : BitVec 2
  deriving DecidableEq, Repr

/-- The levels of the three end switches (2.4): true while the switch is active. -/
structure Switches where
  stepIn : Bool
  stepOut : Bool
  awningIn : Bool
  deriving DecidableEq, Repr

/-- The two moments of a NOTICE frame at which it acts (R24): when its request code has been received it takes its
copy of the oldest notice, and when it closes, after `n` complete bytes, it may remove it. -/
inductive NoticePhase where
  | codeReceived
  | closed (n : Nat)
  deriving DecidableEq, Repr

/-- The commands. A command that closes a frame carries what was shifted in: `n` is the number of complete bytes of a
frame whose bytes after the code are not read, `body` the complete bytes after the request code, and `bytes` all the
complete bytes of the frame, the code included. -/
inductive Instr where
  /-- STATUS: a STATUS frame of `n` complete bytes closes (R6). -/
  | status (p : PortId) (n : Nat)
  /-- STAGE: a STAGE frame closes; `body` is the length byte, the image bytes and any bytes beyond them (R7). -/
  | stage (p : PortId) (body : List Byte)
  /-- COMMIT: a COMMIT frame closes; `body` is the target record number and any bytes beyond it (R8). -/
  | commit (p : PortId) (body : List Byte)
  /-- FETCH: a FETCH frame closes; `body` is the record number and any bytes beyond it (R10). -/
  | fetch (p : PortId) (body : List Byte)
  /-- VIEW: a VIEW frame of `n` complete bytes closes (R11). -/
  | view (p : PortId) (n : Nat)
  /-- FETCH_VIEW: a FETCH_VIEW frame closes; `body` is the record number and any bytes beyond it (R10). -/
  | fetchView (p : PortId) (body : List Byte)
  /-- READ: a READ frame of `n` complete bytes closes (R12). -/
  | read (p : PortId) (n : Nat)
  /-- NOTICE: a NOTICE frame's request code has been received, or the frame closes (R24). -/
  | notice (p : PortId) (phase : NoticePhase)
  /-- ABORTED_FRAME: a frame with an unknown request code closes, or one with no complete byte (R3, R4). -/
  | abortedFrame (p : PortId) (bytes : List Byte)
  /-- TRANSFER_START: the free transfer engine takes the next waiting request (R14). -/
  | transferStart
  /-- COMMIT_COMPLETION: the commit transfer in progress completes (R15). -/
  | commitCompletion
  /-- FETCH_COMPLETION: the fetch transfer in progress completes (R13). -/
  | fetchCompletion
  /-- POWER_ON_RESET: supply comes up with these strap values and switch levels (R25). -/
  | powerOnReset (straps : Straps) (switches : Switches)
  /-- VEHICLE_TIMER_EXPIRY: the 5 s vehicle timer expires (R36). -/
  | vehicleTimerExpiry
  /-- POLL_PERIOD_START: the 250 ms poll-period timer expires (R44). -/
  | pollPeriodStart
  /-- SHUNT_POLL: the controller makes the shunt poll that is due (R45). -/
  | shuntPoll
  /-- LIST_POLL: the controller makes the next list poll that the pass gives (R46). -/
  | listPoll
  /-- RESPONSE_CHARACTER: one character of a sender's response arrives (R49). -/
  | responseCharacter (c : LineChar)
  /-- RESPONSE_WINDOW_EXPIRY: the 8 ms response window ends with no character (R50). -/
  | responseWindowExpiry
  /-- GAP_EXPIRY: more than 2 ms have passed since the last response character (R50). -/
  | gapExpiry
  /-- STRAY_CHARACTER: a character arrives while the line is IDLE (R42). -/
  | strayCharacter (c : LineChar)
  /-- HOLD_TIMER_EXPIRY: the hold timer of entry `e` expires (R102). -/
  | holdTimerExpiry (e : Fin 48)
  /-- SLOT_BOUNDARY: the slot timer expires (R130). -/
  | slotBoundary
  /-- RAMP_EVENT: the 100 ms ramp timer expires (R146). -/
  | rampEvent
  /-- PULSE_PERIOD_END: a 10 ms pulse period ends (R147). -/
  | pulsePeriodEnd
  /-- SENSE_EVENT: the bank samples the sixteen channel currents, in 0.1 A (R148). -/
  | senseEvent (samples : List Nat)
  /-- INRUSH_WINDOW_CLOSE: the inrush time of channel `c` ends (R148). -/
  | inrushWindowClose (c : Fin 16)
  /-- RETRY_EXPIRY: the retry timer of channel `c` expires (R150). -/
  | retryExpiry (c : Fin 16)
  /-- CLEAN_TIME_REACHED: the clean time of channel `c` reaches 60,000 ms (R151). -/
  | cleanTimeReached (c : Fin 16)
  /-- DEAD_TIMER_EXPIRY: the 300 ms dead timer of bridge `b` expires (R153). -/
  | deadTimerExpiry (b : Bridge)
  /-- STEP_IN_SWITCH_CHANGE: the step in-switch takes the level `active` (R160). -/
  | stepInSwitchChange (active : Bool)
  /-- STEP_OUT_SWITCH_CHANGE: the step out-switch takes the level `active` (R160). -/
  | stepOutSwitchChange (active : Bool)
  /-- AWNING_IN_SWITCH_CHANGE: the awning in-switch takes the level `active` (R165). -/
  | awningInSwitchChange (active : Bool)
  /-- AWNING_HALL_PULSE: one hall pulse of the awning (R163). -/
  | awningHallPulse
  /-- STEP_TRAVEL_TIMER_EXPIRY: the step travel timer expires (R161). -/
  | stepTravelTimerExpiry
  /-- STEP_JAM_RETRY_EXPIRY: the 2 s step jam retry timer expires (R162). -/
  | stepJamRetryExpiry
  /-- AWNING_STALL_TIMER_EXPIRY: no pulse arrived within the stall interval (R166). -/
  | awningStallTimerExpiry
  /-- AWNING_TRAVEL_TIMER_EXPIRY: the awning travel timeout expires (R166). -/
  | awningTravelTimerExpiry
  /-- AWNING_STALL_RETRY_EXPIRY: the 2 s stall retry timer expires (R166). -/
  | awningStallRetryExpiry
  /-- WIND_HOLD_EXPIRY: the wind hold timer expires (R167). -/
  | windHoldExpiry
  /-- DRAIN_TIMER_EXPIRY: the drain timer expires (R178). -/
  | drainTimerExpiry
  /-- FRAME_OPEN: the processor asserts the select of port `p` (R3). -/
  | frameOpen (p : PortId)
  deriving DecidableEq, Repr

end Sys2Proof
end

