-- ==== Sys2Proof/Decode.lean ====
section
/-! DEFINITION. The command that a word of the opcode table spells. The table gives no row any bits: the part's commands are frames, pin
events and timer events, and none is a word. -/

namespace Sys2Proof

/-- The command that `nbits` bits of value `w` spell: none, since no row of the table carries bits. -/
def decodeTableWord (_nbits _w : Nat) : Option Instr := none

end Sys2Proof
end

