-- ==== Sys2Proof/Config.lean ====
section
/-! DEFINITION. The times and limits that the manual fixes for the part (all timers are kept in ms).
The manual leaves no value open that a command must produce, so there is no free value here. -/

namespace Sys2Proof.Config

/-- Notices held by one port's queue (1.6). -/
abbrev noticeQueueDepth : Nat := 8
/-- The vehicle timer (R36). -/
abbrev vehicleTimerMs : Nat := 5000
/-- The poll period (3.3). -/
abbrev pollPeriodMs : Nat := 250
/-- List polls allowed in one poll period (R44). -/
abbrev listPollsPerPeriod : Nat := 6
/-- Poll entries considered in one poll period (R46). -/
abbrev considerationsPerPeriod : Nat := 32
/-- Considerations of an ABSENT entry between its polls (R47). -/
abbrev absentSkip : Nat := 15
/-- The quiet time after a transaction or a stray character (R42). -/
abbrev quietMs : Nat := 2
/-- The response window (R48). -/
abbrev responseWindowMs : Nat := 8
/-- The longest gap between response characters (R50). -/
abbrev gapMs : Nat := 2
/-- The low 8 bits of the POLL character (11.3). -/
abbrev pollCode : Nat := 165
/-- The ramp event (R146). -/
abbrev rampMs : Nat := 100
/-- The pulse period (R147). -/
abbrev pulseMs : Nat := 10
/-- The dead time of a bridge (8.6). -/
abbrev deadMs : Nat := 300
/-- The jam retry of the step and the stall retry of the awning (R162, R166). -/
abbrev retryMs : Nat := 2000
/-- The clean time that resets a trip count (R151). -/
abbrev cleanMs : Nat := 60000
/-- One minute: hold time, drain time and wind hold time are counted in minutes. -/
abbrev minuteMs : Nat := 60000
/-- Units of 0.1 A·s in one ampere-hour (5.1.1). -/
abbrev unitsPerAh : Nat := 36000

/-- Passes that one steady re-evaluation may take to settle (MODEL: R157 says that the allocator makes a further
re-evaluation for each change that the hand-over of the last one makes; the chain is cut here and taken up again by the next
re-evaluation or the next step on an empty queue. DEDUCED that no chain is so long; log entry 5). -/
abbrev settlePasses : Nat := 128

end Sys2Proof.Config
end

