-- ==== Sys2Proof/Machine/Types.lean ====
section
/-! DEFINITION. The records, states and codes of the blocks (3.1), as plain data. Each inductive lists its names in the order
of the code sets of 11.2; the codes themselves are in Machine/Operands.lean. A timer is `none` when stopped and otherwise
holds the ms left. -/

namespace Sys2Proof.Machine

open Sys2Proof

/-- One value for each of the three ports. -/
structure PerPort (α : Type) where
  cp0 : α
  cp1 : α
  cp2 : α
  deriving DecidableEq, Repr

/-- A timer: stopped, or running with the ms left. -/
abbrev Timer := Option Nat

/-! ### Ports and transfers (Chapter 1) -/

inductive Role where | panel | vehicle | remote | disabled
  deriving DecidableEq, Repr
inductive StagingState where | idle | busy | busyPending
  deriving DecidableEq, Repr
inductive ReadoutState where | idle | busy | ready
  deriving DecidableEq, Repr
inductive FetchResult where | none | fetched | badRecord | empty
  deriving DecidableEq, Repr
/-- Result codes of a judged commit (1.2.3). -/
inductive Result where
  | none | accepted | clamped | notOwner | notPermitted | wrongMode | badRecord | badField | tooCold | notConfigured
  deriving DecidableEq, Repr
inductive NoticeKind where
  | none | entry | tier | account | mode | vehicle | channel | motion | readiness | frost | stale | sender | queue
  deriving DecidableEq, Repr

/-- A notice: kind, subject 0..255 and 16-bit value (1.6). -/
structure Notice where
  kind : NoticeKind
  subject : Nat
  value : Nat
  deriving DecidableEq, Repr

/-- The staging pair (1.3). -/
structure StagingPair where
  state : StagingState
  host : Vector Byte 32
  shadow : Vector Byte 32
  remembered : Option Nat
  deriving DecidableEq, Repr

/-- One half of the readout pair (1.4). -/
structure ReadoutHalf where
  record : Option Nat
  result : FetchResult
  image : Vector Byte 48
  deriving DecidableEq, Repr

/-- The readout pair (1.4). -/
structure ReadoutPair where
  state : ReadoutState
  host : ReadoutHalf
  shadow : ReadoutHalf
  deriving DecidableEq, Repr

/-- A request that a port makes of the transfer engine (1.5.1). -/
inductive Request where
  | commit (target : Nat)
  | fetch (record : Nat)
  deriving DecidableEq, Repr

/-- The status fields of a port (1.2.3), as one copy of them. -/
structure PortStatus where
  role : Role
  staging : StagingState
  readout : ReadoutState
  collided : Bool
  aborted : Bool
  noticeCount : Nat
  overrun : Bool
  judged : Nat
  lastResult : Result
  lastRecord : Nat
  deriving DecidableEq, Repr

/-- The copy of the oldest notice that a NOTICE frame takes (R24): the copy, absent when the queue was empty, and whether the
copied notice is still in the queue. -/
structure NoticeCopy where
  copy : Option Notice
  stillOldest : Bool
  deriving DecidableEq, Repr

/-- An open frame: the status copy of R3, and the notice copy of R24 once the code of a NOTICE frame has been received. -/
structure Frame where
  status : PortStatus
  notice : Option NoticeCopy
  deriving DecidableEq, Repr

/-- One client port. `requests` are its requests waiting at the transfer engine, the earlier first (R14). `frame` is the open
frame, if any. `out` is the MODEL's own field: the bytes that the last closed frame shifted out. -/
structure Port where
  role : Role
  staging : StagingPair
  readout : ReadoutPair
  collided : Bool
  aborted : Bool
  notices : List Notice
  overrun : Bool
  judged : Nat
  lastResult : Result
  lastRecord : Nat
  requests : List Request
  frame : Option Frame
  out : List Byte
  deriving DecidableEq, Repr

/-- A transfer in progress: the port it is made for and the request carried (R14). -/
structure Transfer where
  port : PortId
  request : Request
  deriving DecidableEq, Repr

/-- The record transfer engine (1.5). -/
structure Engine where
  transfer : Option Transfer
  pointer : PortId
  deriving DecidableEq, Repr

/-! ### Mode controller (Chapter 2) -/

inductive Mode where | setup | parked | travel | storage
  deriving DecidableEq, Repr
/-- A mode request; `none` is the value 0 of power-on reset. -/
inductive ModeRequest where | none | parked | storage | restart
  deriving DecidableEq, Repr
inductive RequestOutcome where | none | changed | unchanged | diverted | restarted
  deriving DecidableEq, Repr

/-- The mode record, the vehicle record and the vehicle timer (2.1, 2.4). -/
structure ModeControl where
  requested : ModeRequest
  mode : Mode
  batteryCommitted : Bool
  shuntBound : Bool
  configured : Bool
  stale : Bool
  lastRequest : ModeRequest
  lastPort : Option PortId
  lastOutcome : RequestOutcome
  ignition : Bool
  moving : Bool
  vehicleTimer : Timer
  deriving DecidableEq, Repr

/-! ### Sender line (Chapter 3) -/

inductive LineState where | idle | sending | receiving
  deriving DecidableEq, Repr
inductive Health where | present | suspect | absent
  deriving DecidableEq, Repr
inductive PollFault where | none | silent | addressBit | gap | count | check
  deriving DecidableEq, Repr

/-- What a poll was sent for (R48). -/
inductive PollSource where
  | shunt
  | entry (i : Fin 32)
  deriving DecidableEq, Repr

/-- The transaction in flight (3.2): the address it was sent to, its source, and the low 8 bits of the response characters
received so far with the check over them (R49, R51). -/
structure Transaction where
  address : Nat
  source : PollSource
  received : List Byte
  check : Byte
  deriving DecidableEq, Repr

/-- Failure count, health and last fault of a sender (3.5). -/
structure SenderHealth where
  failures : Nat
  health : Health
  lastFault : PollFault
  deriving DecidableEq, Repr

/-- A poll entry, records 128 to 159 (3.2). -/
structure PollEntry where
  address : Nat
  sender : SenderHealth
  skip : Nat
  deriving DecidableEq, Repr

/-- The sender line controller: record 122 and the values that no record shows (3.2). `sent` is the MODEL's own field: the two
characters of the last poll as they went out (R48). -/
structure LineControl where
  shuntAddress : Nat
  queueEnable : Bool
  windowLow : Nat
  windowHigh : Nat
  shunt : SenderHealth
  pointer : Fin 32
  periodCount : Nat
  state : LineState
  transaction : Option Transaction
  shuntDue : Bool
  listAllowed : Nat
  considered : Nat
  pollTimer : Nat
  quiet : Nat
  windowTimer : Timer
  gapTimer : Timer
  sent : List LineChar
  deriving DecidableEq, Repr

/-! ### Measurement records and the reading queue (Chapter 4) -/

inductive MeasKind where | temperature | level | current | voltage | interval | headroom | wind
  deriving DecidableEq, Repr
inductive Freshness where | never | fresh | stale
  deriving DecidableEq, Repr

/-- The descriptor part of a measurement record (4.1). -/
structure MeasDescriptor where
  address : Nat
  channel : Nat
  kind : MeasKind
  staleLimit : Nat
  deriving DecidableEq, Repr

/-- A measurement record, records 64 to 87 (4.1). -/
structure MeasRecord where
  desc : MeasDescriptor
  value : Int
  filtered : Nat
  accumulator : Nat
  freshness : Freshness
  age : Nat
  unread : PerPort Bool
  lost : PerPort Bool
  updates : Nat
  deriving DecidableEq, Repr

/-- A reading as dispatch receives it (R52). -/
structure Reading where
  address : Nat
  channel : Nat
  kind : MeasKind
  value : Int
  deriving DecidableEq, Repr

/-- One place of the reading queue (4.5). -/
structure QueuedReading where
  reading : Reading
  arrival : Nat
  deriving DecidableEq, Repr

/-- The reading queue (4.5). -/
structure ReadingQueue where
  places : Vector QueuedReading 16
  put : Fin 16
  get : Fin 16
  fill : Nat
  overrun : Bool
  deriving DecidableEq, Repr

/-! ### Battery account (Chapter 5) -/

inductive Tier where | normal | conserve | essential | protect
  deriving DecidableEq, Repr
inductive AccountEvent where | empty | sync | hold | resume | seeded
  deriving DecidableEq, Repr

/-- The battery parameters, record 114 (5.2). -/
structure BatteryParams where
  capacityAh : Nat
  efficiency : Nat
  derating : Nat
  fullVoltage : Nat
  tailCurrent : Nat
  tailTime : Nat
  protectVoltage : Nat
  protectCount : Nat
  t1 : Nat
  t2 : Nat
  t3 : Nat
  hysteresis : Nat
  allowNormal : Nat
  allowConserve : Nat
  allowEssential : Nat
  allowProtect : Nat
  busLimit : Nat
  maxInterval : Nat
  current : Option (Fin 24)
  voltage : Option (Fin 24)
  temperature : Option (Fin 24)
  interval : Option (Fin 24)
  deriving DecidableEq, Repr

/-- The account record, record 112 (5.1.2). -/
structure Account where
  seed : Nat
  lastSeed : Option Nat
  charge : Nat
  residue : Nat
  factor : Nat
  temperature : Int
  effective : Nat
  soc : Nat
  tier : Tier
  synced : Bool
  gap : Bool
  hold : Bool
  tail : Nat
  lowVoltage : Nat
  reports : Nat
  deriving DecidableEq, Repr

/-- A shunt report (R57): current in 10 mA, voltage in mV, temperature in 0.1 °C and interval in ms. -/
structure ShuntReport where
  current : Int
  voltage : Int
  temperature : Int
  interval : Int
  deriving DecidableEq, Repr

/-! ### Demand entries and the budget (Chapter 6) -/

inductive MotionValue where
  | extend | retract | stop
  | position (p : Nat)
  deriving DecidableEq, Repr

/-- Kind and value of a demand entry (6.1.1). -/
inductive Demand where
  | none
  | level (l : Nat)
  | setpoint (t : Int)
  | motion (v : MotionValue)
  deriving DecidableEq, Repr

inductive Persistence where | once | standing
  deriving DecidableEq, Repr
inductive Arm where | held | armed
  deriving DecidableEq, Repr
inductive EntryState where | free | held | waiting | granted | superseded | shed | blocked | done
  deriving DecidableEq, Repr
inductive Reason where
  | none | noBudget | tier | mode | interlock | sensor | tripped | lockedOut | notCalling | noHeadroom | degraded
  | timeout | jammed | fault | expired | complete | cancelled
  deriving DecidableEq, Repr

/-- The fields a port writes when it commits an entry (6.1.1). -/
structure EntryFields where
  channel : Fin 16
  demand : Demand
  cls : Fin 4
  persistence : Persistence
  holdTime : Nat
  slotFirst : Nat
  slotSpan : Nat
  repetition : Nat
  base : Nat
  arm : Arm
  deriving DecidableEq, Repr

/-- A demand entry, records 0 to 47 (6.1.1). -/
structure Entry where
  fields : EntryFields
  state : EntryState
  reason : Reason
  owner : Option PortId
  grantedLevel : Option Nat
  holdTimer : Timer
  starvation : Nat
  calling : Bool
  runs : Nat
  deriving DecidableEq, Repr

/-- One row of the channel table of record 113 (6.3). -/
structure ChannelRow where
  entry : Option (Fin 48)
  level : Nat
  sensed : Nat
  deriving DecidableEq, Repr

/-- The present heavy run (7): its entry, channel and need. -/
structure Run where
  entry : Fin 48
  channel : Fin 16
  need : Nat
  deriving DecidableEq, Repr

/-- The budget record, record 113 (6.3). -/
structure Budget where
  sourceSum : Nat
  allowance : Nat
  budget : Nat
  exemptSum : Nat
  reserve : Nat
  steadyBudget : Nat
  steadyTotal : Nat
  headroom : Int
  run : Option Run
  evaluations : Nat
  rows : Vector ChannelRow 16
  deriving DecidableEq, Repr

/-! ### Slot scheduler (Chapter 7) -/

inductive SlotVerdict where | none | run | idle
  deriving DecidableEq, Repr

/-- A decision about one slot (R127): the owner with the channel it targeted, the verdict, the idle reason, and whether the
owner was HELD or BLOCKED when the decision was made (R133 does not write such an owner). -/
structure SlotDecision where
  owner : Option (Fin 48)
  channel : Fin 16
  verdict : SlotVerdict
  reason : Reason
  aside : Bool
  deriving DecidableEq, Repr

/-- The slot scheduler: record 121 and the slot timer (7). The decision is `none` for NONE. -/
structure Scheduler where
  slotLength : Nat
  cabin : Option (Fin 24)
  slot : Nat
  cycle : Nat
  decision : Option SlotDecision
  slotTimer : Nat
  deriving DecidableEq, Repr

/-! ### Output channels (Chapter 8) -/

inductive ChannelKind where | unused | switch | dimmer | heavy | valve | bridge
  deriving DecidableEq, Repr
inductive ChannelState where
  | off | on | ramping | lit | stopped | driveOut | driveIn | dead | tripped | lockedOut
  deriving DecidableEq, Repr
/-- A direction of a bridge, or none. -/
inductive Direction where | none | outward | inward
  deriving DecidableEq, Repr
/-- The three commands of the motion controller (R153). -/
inductive BridgeCommand where | driveOut | driveIn | stop
  deriving DecidableEq, Repr

/-- The descriptor part of a channel record (8.1). -/
structure ChannelDescriptor where
  kind : ChannelKind
  nominal : Nat
  trip : Nat
  rampRate : Nat
  inrushTime : Nat
  deriving DecidableEq, Repr

/-- A channel record, records 96 to 111 (8.1), with the duty in force and its shadow (R147), and the dead timer and pending
direction of a bridge (8.6). -/
structure Channel where
  desc : ChannelDescriptor
  state : ChannelState
  target : Nat
  present : Nat
  tripCount : Nat
  cleanTime : Nat
  retryTimer : Timer
  inrush : Timer
  duty : Nat
  shadow : Nat
  deadTimer : Timer
  pendingDir : Direction
  deriving DecidableEq, Repr

/-- The bank's two free-running timers (R146, R147). -/
structure BankTimers where
  ramp : Nat
  pulse : Nat
  deriving DecidableEq, Repr

/-! ### Motion (Chapter 9) -/

/-- The states of the step; the awning has the same ones with OUT in the place of EXTENDED and no HALTED (11.2). -/
inductive StepState where | retracted | extending | extended | retracting | reversing | halted | jammed | fault
  deriving DecidableEq, Repr
inductive AwningState where | retracted | extending | out | retracting | reversing | jammed | fault
  deriving DecidableEq, Repr
inductive RetryMark where | none | pending | used
  deriving DecidableEq, Repr
inductive MotionEvent where
  | jam | stall | jammed | timeout | fault | cleared | drift | windHold | windClear
  deriving DecidableEq, Repr

/-- An operation (R156): the entry whose grant is carried out and its MOTION value. -/
structure Operation where
  entry : Fin 48
  value : MotionValue
  deriving DecidableEq, Repr

/-- The step machine (9.1, 9.3). `autoReturn` marks the operation as an automatic return. -/
structure StepControl where
  state : StepState
  operation : Option Operation
  autoReturn : Bool
  timeouts : Nat
  jamRetry : RetryMark
  jamRun : Nat
  travelTimer : Timer
  retryTimer : Timer
  deriving DecidableEq, Repr

/-- The awning target (9.1): a count, or the in-switch. -/
inductive AwningTarget where
  | count (t : Nat)
  | home
  deriving DecidableEq, Repr

/-- The awning machine (9.1, 9.4). `lastDrive` is the direction of the last drive since the last reset (R163). -/
structure AwningControl where
  state : AwningState
  operation : Option Operation
  count : Nat
  target : Option AwningTarget
  stallRetry : RetryMark
  lastDrift : Nat
  lastDrive : Direction
  stallTimer : Timer
  travelTimer : Timer
  retryTimer : Timer
  deriving DecidableEq, Repr

/-- The wind run count and the wind hold (R167): the hold is active while its timer runs. -/
structure WindControl where
  runCount : Nat
  holdTimer : Timer
  deriving DecidableEq, Repr

inductive WindKnown where | known | unknown | unwatched
  deriving DecidableEq, Repr

/-- The motion parameters, record 118 (9.1). -/
structure MotionParams where
  stepTravelMax : Nat
  stepJamCurrent : Nat
  stepJamTime : Nat
  pmax : Nat
  stallInterval : Nat
  syncSlack : Nat
  awningTravelTimeout : Nat
  wind : Option (Fin 24)
  windLimit : Nat
  windCount : Nat
  gustLimit : Nat
  windHoldTime : Nat
  deriving DecidableEq, Repr

/-! ### Frost and water (Chapter 10) -/

inductive FrostState where | off | idle | watch | heating | dumping | drained
  deriving DecidableEq, Repr
inductive DumpCause where | none | reset | lastResort | noHeater | noProbe | valveLost
  deriving DecidableEq, Repr

/-- The causes of an UNAVAILABLE heater (R177); AVAILABLE when none holds. -/
structure HeaterCauses where
  starved : Bool
  tier : Bool
  lockedOut : Bool
  noChannel : Bool
  deriving DecidableEq, Repr

/-- The frost record, record 119 (10.1). `requested` is true once a valve-close request has been written (0 or CLOSE 1). -/
structure FrostControl where
  requested : Bool
  state : FrostState
  cause : DumpCause
  heater : HeaterCauses
  drainTimer : Timer
  deriving DecidableEq, Repr

/-- The frost parameters, record 120 (10.1). -/
structure FrostParams where
  enable : Bool
  tank : Option (Fin 24)
  outside : Option (Fin 24)
  fresh : Option (Fin 24)
  grey : Option (Fin 24)
  valve : Option (Fin 16)
  heater : Option (Fin 16)
  pump : Option (Fin 16)
  watchTemp : Int
  holdTemp : Int
  dumpTemp : Int
  closeTemp : Int
  starvationLimit : Nat
  drainTime : Nat
  slotFirst : Nat
  slotSpan : Nat
  dryLevel : Nat
  greyFull : Nat
  deriving DecidableEq, Repr

end Sys2Proof.Machine
end

