-- ==== Sys2Proof/Machine/Codes.lean ====
section
/-! DEFINITION. The code sets of 11.2: the number that stands for each name in a status, a notice or a record image, and the
name that a staged code stands for. -/

namespace Sys2Proof.Machine

open Sys2Proof

/-- The role field of the port status (11.1). -/
def Role.code : Role → Nat
  | .panel => 0 | .vehicle => 1 | .remote => 2 | .disabled => 3

/-- The staging state field of the port status (11.1). -/
def StagingState.code : StagingState → Nat
  | .idle => 0 | .busy => 1 | .busyPending => 2

/-- The readout state field of the port status (11.1). -/
def ReadoutState.code : ReadoutState → Nat
  | .idle => 0 | .busy => 1 | .ready => 2

/-- The fetch result byte of a READ frame (11.1). -/
def FetchResult.code : FetchResult → Nat
  | .none => 0 | .fetched => 1 | .badRecord => 2 | .empty => 3

/-- Result codes. -/
def Result.code : Result → Nat
  | .none => 0 | .accepted => 1 | .clamped => 2 | .notOwner => 3 | .notPermitted => 4 | .wrongMode => 5
  | .badRecord => 6 | .badField => 7 | .tooCold => 8 | .notConfigured => 9

/-- Entry state codes. -/
def EntryState.code : EntryState → Nat
  | .free => 0 | .held => 1 | .waiting => 2 | .granted => 3 | .superseded => 4 | .shed => 5 | .blocked => 6
  | .done => 7

/-- Reason codes. -/
def Reason.code : Reason → Nat
  | .none => 0 | .noBudget => 1 | .tier => 2 | .mode => 3 | .interlock => 4 | .sensor => 5 | .tripped => 6
  | .lockedOut => 7 | .notCalling => 8 | .noHeadroom => 9 | .degraded => 10 | .timeout => 11 | .jammed => 12
  | .fault => 13 | .expired => 14 | .complete => 15 | .cancelled => 16

/-- Notice kind codes. -/
def NoticeKind.code : NoticeKind → Nat
  | .none => 0 | .entry => 1 | .tier => 2 | .account => 3 | .mode => 4 | .vehicle => 5 | .channel => 6
  | .motion => 7 | .readiness => 8 | .frost => 9 | .stale => 10 | .sender => 11 | .queue => 12

/-- Mode codes. -/
def Mode.code : Mode → Nat
  | .setup => 0 | .parked => 1 | .travel => 2 | .storage => 3

/-- Last outcome codes. -/
def RequestOutcome.code : RequestOutcome → Nat
  | .none => 0 | .changed => 1 | .unchanged => 2 | .diverted => 3 | .restarted => 4

/-- Tier codes. -/
def Tier.code : Tier → Nat
  | .normal => 0 | .conserve => 1 | .essential => 2 | .protect => 3

/-- Persistence codes. -/
def Persistence.code : Persistence → Nat
  | .once => 0 | .standing => 1

/-- Arm codes. -/
def Arm.code : Arm → Nat
  | .held => 0 | .armed => 1

/-- Measurement kind codes. -/
def MeasKind.code : MeasKind → Nat
  | .temperature => 0 | .level => 1 | .current => 2 | .voltage => 3 | .interval => 4 | .headroom => 5
  | .wind => 6

/-- Freshness codes. -/
def Freshness.code : Freshness → Nat
  | .never => 0 | .fresh => 1 | .stale => 2

/-- Health codes. -/
def Health.code : Health → Nat
  | .present => 0 | .suspect => 1 | .absent => 2

/-- Poll fault codes. -/
def PollFault.code : PollFault → Nat
  | .none => 0 | .silent => 1 | .addressBit => 2 | .gap => 3 | .count => 4 | .check => 5

/-- Channel kind codes. -/
def ChannelKind.code : ChannelKind → Nat
  | .unused => 0 | .switch => 1 | .dimmer => 2 | .heavy => 3 | .valve => 4 | .bridge => 5

/-- Channel state codes. -/
def ChannelState.code : ChannelState → Nat
  | .off => 0 | .on => 1 | .ramping => 2 | .lit => 3 | .stopped => 4 | .driveOut => 5 | .driveIn => 6
  | .dead => 7 | .tripped => 8 | .lockedOut => 9

/-- Step state codes. -/
def StepState.code : StepState → Nat
  | .retracted => 0 | .extending => 1 | .extended => 2 | .retracting => 3 | .reversing => 4 | .halted => 5
  | .jammed => 6 | .fault => 7

/-- Retry mark codes. -/
def RetryMark.code : RetryMark → Nat
  | .none => 0 | .pending => 1 | .used => 2

/-- Direction codes. -/
def Direction.code : Direction → Nat
  | .none => 0 | .outward => 1 | .inward => 2

/-- Wind known codes. -/
def WindKnown.code : WindKnown → Nat
  | .known => 0 | .unknown => 1 | .unwatched => 2

/-- Frost state codes. -/
def FrostState.code : FrostState → Nat
  | .off => 0 | .idle => 1 | .watch => 2 | .heating => 3 | .dumping => 4 | .drained => 5

/-- Dump cause codes. -/
def DumpCause.code : DumpCause → Nat
  | .none => 0 | .reset => 1 | .lastResort => 2 | .noHeater => 3 | .noProbe => 4 | .valveLost => 5

/-- Slot verdict codes. -/
def SlotVerdict.code : SlotVerdict → Nat
  | .none => 0 | .run => 1 | .idle => 2

/-- Requested mode and last request codes: PARKED 1, STORAGE 3, RESTART 4, and 0 for none. -/
def ModeRequest.code : ModeRequest → Nat
  | .none => 0 | .parked => 1 | .storage => 3 | .restart => 4

/-- Awning state codes: those of the step, with OUT in the place of EXTENDED. -/
def AwningState.code : AwningState → Nat
  | .retracted => 0 | .extending => 1 | .out => 2 | .retracting => 3 | .reversing => 4 | .jammed => 6 | .fault => 7

/-- MOTION value codes. -/
def MotionValue.code : MotionValue → Nat
  | .extend => 0 | .retract => 1 | .stop => 2 | .position _ => 3

/-- Demand kind codes. -/
def Demand.code : Demand → Nat
  | .none => 0 | .level _ => 1 | .setpoint _ => 2 | .motion _ => 3

/-- MOTION event codes, 1 upward. -/
def MotionEvent.code : MotionEvent → Nat
  | .jam => 1 | .stall => 2 | .jammed => 3 | .timeout => 4 | .fault => 5 | .cleared => 6 | .drift => 7 | .windHold => 8
  | .windClear => 9

/-- ACCOUNT values, 1 upward. -/
def AccountEvent.code : AccountEvent → Nat
  | .empty => 1 | .sync => 2 | .hold => 3 | .resume => 4 | .seeded => 5

/-- A flag occupies one byte, 0 for clear or false and 1 for set or true (Chapter 11). Ignition, moving, the enables and the
verdicts ALLOWED and BLOCKED have the same two codes. -/
def flagCode (b : Bool) : Nat := if b then 1 else 0

/-- The number of a port, CP0 to CP2. -/
def portNumber : PortId → Nat
  | .cp0 => 0 | .cp1 => 1 | .cp2 => 2

/-- The measurement kind that a code stands for; 7 and above are undefined (11.2, 11.3). -/
def measKindOf : Nat → Option MeasKind
  | 0 => some .temperature | 1 => some .level | 2 => some .current | 3 => some .voltage | 4 => some .interval
  | 5 => some .headroom | 6 => some .wind | _ => none

/-- The channel kind that a code stands for (11.2). -/
def channelKindOf : Nat → Option ChannelKind
  | 0 => some .unused | 1 => some .switch | 2 => some .dimmer | 3 => some .heavy | 4 => some .valve | 5 => some .bridge
  | _ => none

/-- The persistence that a code stands for (11.2). -/
def persistenceOf : Nat → Option Persistence
  | 0 => some .once | 1 => some .standing | _ => none

/-- The arm that a code stands for (11.2). -/
def armOf : Nat → Option Arm
  | 0 => some .held | 1 => some .armed | _ => none

/-- The flag that a code of two values stands for: enables, ignition, moving (11.2). -/
def flagOf : Nat → Option Bool
  | 0 => some false | 1 => some true | _ => none

/-- The mode request that a code stands for (11.2); 0 names no request and is undefined in a commit. -/
def modeRequestOf : Nat → Option ModeRequest
  | 1 => some .parked | 3 => some .storage | 4 => some .restart | _ => none

/-- A kind whose readings and values are signed (R52). -/
def MeasKind.signed : MeasKind → Bool
  | .temperature | .current => true
  | .level | .voltage | .interval | .headroom | .wind => false

end Sys2Proof.Machine
end

