-- ==== Sys2Proof/Machine/Defaults.lean ====
section
/-! DEFINITION. The value of each block after a power-on reset. -/

namespace Sys2Proof.Machine

open Sys2Proof

/-- The same value for every port. -/
def PerPort.all {α : Type} (x : α) : PerPort α := { cp0 := x, cp1 := x, cp2 := x }

/-- A readout half after power-on reset (R25). -/
def emptyHalf : ReadoutHalf := { record := none, result := .none, image := Vector.replicate 48 0 }

/-- A port after power-on reset (R5, R25). `out` is the model's own: nothing shifted out yet. -/
def resetPort (role : Role) : Port :=
  { role := role
    staging := { state := .idle, host := Vector.replicate 32 0, shadow := Vector.replicate 32 0, remembered := none }
    readout := { state := .idle, host := emptyHalf, shadow := emptyHalf }
    collided := false, aborted := false, notices := [], overrun := false, judged := 0
    lastResult := .none, lastRecord := 0, requests := [], frame := none, out := [] }

/-- The role a strap value stands for (table of 1.1). -/
def strapRole (v : BitVec 2) : Role :=
  match v.toNat with
  | 0 => .panel
  | 1 => .vehicle
  | 2 => .remote
  | _ => .disabled

/-- The role of a port when a lower-numbered port presents VEHICLE, or none does (R1). -/
def laterRole (vehicleTaken : Bool) (r : Role) : Role :=
  if vehicleTaken && r == .vehicle then .disabled else r

/-- The roles that the straps give (R1). -/
def strapRoles (straps : Straps) : PerPort Role :=
  let r0 := strapRole straps.cp0
  let r1 := strapRole straps.cp1
  let r2 := strapRole straps.cp2
  { cp0 := r0
    cp1 := laterRole (r0 == .vehicle) r1
    cp2 := laterRole (r0 == .vehicle || r1 == .vehicle) r2 }

/-- The three ports after power-on reset (R1, R25). -/
def resetPorts (straps : Straps) : PerPort Port :=
  let roles := strapRoles straps
  { cp0 := resetPort roles.cp0, cp1 := resetPort roles.cp1, cp2 := resetPort roles.cp2 }

/-- The transfer engine after power-on reset (R14, R25). -/
def resetEngine : Engine := { transfer := none, pointer := .cp2 }

/-- The mode controller after power-on reset (R27). -/
def resetModeControl : ModeControl :=
  { requested := .none, mode := .setup, batteryCommitted := false, shuntBound := false, configured := false
    stale := false, lastRequest := .none, lastPort := none, lastOutcome := .none
    ignition := false, moving := false, vehicleTimer := none }

/-- A sender judged PRESENT with no failure and no fault (R58). -/
def soundSender : SenderHealth := { failures := 0, health := .present, lastFault := .none }

/-- An unused poll entry (R58). -/
def resetPollEntry : PollEntry := { address := 0, sender := soundSender, skip := 0 }

/-- The sender line controller after power-on reset (R58). The line owes no quiet time: no transaction has ended. -/
def resetLine : LineControl :=
  { shuntAddress := 0, queueEnable := false, windowLow := 1, windowHigh := 254, shunt := soundSender
    pointer := 0, periodCount := 0, state := .idle, transaction := none, shuntDue := false, listAllowed := 0
    considered := 0, pollTimer := Config.pollPeriodMs, quiet := 0, windowTimer := none, gapTimer := none, sent := [] }

/-- The default descriptor of a measurement record (R59). -/
def defaultMeasDescriptor : MeasDescriptor := { address := 0, channel := 0, kind := .temperature, staleLimit := 8 }

/-- A measurement record with this descriptor and the status part of power-on reset (R59, R60). -/
def freshMeas (d : MeasDescriptor) : MeasRecord :=
  { desc := d, value := 0, filtered := 0, accumulator := 0, freshness := .never, age := 0
    unread := PerPort.all false, lost := PerPort.all false, updates := 0 }

/-- An empty place of the reading queue (R71). -/
def emptyPlace : QueuedReading :=
  { reading := { address := 0, channel := 0, kind := .temperature, value := 0 }, arrival := 0 }

/-- The reading queue after power-on reset (R71). -/
def resetQueue : ReadingQueue :=
  { places := Vector.replicate 16 emptyPlace, put := 0, get := 0, fill := 0, overrun := false }

/-- The default battery parameters (record 114 in 11.5). -/
def defaultBattery : BatteryParams :=
  { capacityAh := 200, efficiency := 243, derating := 6, fullVoltage := 14200, tailCurrent := 200, tailTime := 120
    protectVoltage := 11600, protectCount := 8, t1 := 500, t2 := 300, t3 := 150, hysteresis := 30
    allowNormal := 1000, allowConserve := 600, allowEssential := 250, allowProtect := 0, busLimit := 1500
    maxInterval := 1000, current := none, voltage := none, temperature := none, interval := none }

/-- The account after power-on reset (R75). -/
def resetAccount : Account :=
  { seed := 0, lastSeed := none, charge := 3600000, residue := 0, factor := 1024, temperature := 25
    effective := 7200000, soc := 500, tier := .conserve, synced := false, gap := true, hold := false
    tail := 0, lowVoltage := 0, reports := 0 }

/-- The fields of a FREE entry (R96). -/
def freeFields : EntryFields :=
  { channel := 0, demand := .none, cls := 3, persistence := .once, holdTime := 0, slotFirst := 0, slotSpan := 1
    repetition := 1, base := 0, arm := .held }

/-- A FREE entry (R96). -/
def freeEntry : Entry :=
  { fields := freeFields, state := .free, reason := .none, owner := none, grantedLevel := none, holdTimer := none
    starvation := 0, calling := false, runs := 0 }

/-- A row of the channel table that no entry holds (R107). -/
def emptyRow : ChannelRow := { entry := none, level := 0, sensed := 0 }

/-- The budget record after power-on reset (R107): S is 0, A the default A_CONSERVE, B the smaller of the bus limit and A. -/
def resetBudget : Budget :=
  { sourceSum := 0, allowance := 600, budget := 600, exemptSum := 0, reserve := 0, steadyBudget := 600, steadyTotal := 0
    headroom := 600, run := none, evaluations := 0, rows := Vector.replicate 16 emptyRow }

/-- The slot scheduler after power-on reset (R124, R125, R138). -/
def resetScheduler : Scheduler :=
  { slotLength := 2, cabin := none, slot := 0, cycle := 0, decision := none, slotTimer := 2000 }

/-- The default descriptor of a general channel (R139). -/
def defaultGeneral : ChannelDescriptor := { kind := .unused, nominal := 0, trip := 10, rampRate := 10, inrushTime := 0 }

/-- The default descriptor of a bridge (R139). -/
def defaultBridge : ChannelDescriptor := { kind := .bridge, nominal := 40, trip := 100, rampRate := 10, inrushTime := 300 }

/-- A channel at rest in state `st` with descriptor `d` (R154). -/
def restingChannel (d : ChannelDescriptor) (st : ChannelState) : Channel :=
  { desc := d, state := st, target := 0, present := 0, tripCount := 0, cleanTime := 0, retryTimer := none, inrush := none
    duty := 0, shadow := 0, deadTimer := none, pendingDir := .none }

/-- The sixteen channels after power-on reset (R139, R154). -/
def resetChannels : Vector Channel 16 :=
  ((Vector.replicate 16 (restingChannel defaultGeneral .off)).set 14 (restingChannel defaultBridge .stopped)).set 15
    (restingChannel defaultBridge .stopped)

/-- The ramp timer and the pulse period start at the reset (R154). -/
def resetBank : BankTimers := { ramp := Config.rampMs, pulse := Config.pulseMs }

/-- The default motion parameters (9.1). -/
def defaultMotionParams : MotionParams :=
  { stepTravelMax := 40, stepJamCurrent := 80, stepJamTime := 2, pmax := 1200, stallInterval := 5, syncSlack := 20
    awningTravelTimeout := 60, wind := none, windLimit := 90, windCount := 3, gustLimit := 140, windHoldTime := 15 }

/-- The step resolved from its switches (R158). -/
def resolvedStep (sw : Switches) (mode : Mode) : StepState :=
  if sw.stepIn && sw.stepOut then .fault
  else if sw.stepIn then .retracted
  else if sw.stepOut then (if mode == .travel then .halted else .extended)
  else .halted

/-- The step machine after power-on reset and after RESTART (R172); both leave the mode SETUP. -/
def resetStep (sw : Switches) : StepControl :=
  { state := resolvedStep sw .setup, operation := none, autoReturn := false, timeouts := 0, jamRetry := .none, jamRun := 0
    travelTimer := none, retryTimer := none }

/-- The awning machine after power-on reset and after RESTART (R172), with the last drift count that the reset leaves. -/
def resetAwning (sw : Switches) (pmax lastDrift : Nat) : AwningControl :=
  { state := if sw.awningIn then .retracted else .out, operation := none, count := if sw.awningIn then 0 else pmax
    target := none, stallRetry := .none, lastDrift := lastDrift, lastDrive := .none
    stallTimer := none, travelTimer := none, retryTimer := none }

/-- The wind run count and wind hold after power-on reset and after RESTART (R172). -/
def resetWind : WindControl := { runCount := 0, holdTimer := none }

/-- The default frost parameters (10.1). -/
def defaultFrostParams : FrostParams :=
  { enable := true, tank := none, outside := none, fresh := none, grey := none, valve := none, heater := none, pump := none
    watchTemp := 30, holdTemp := 60, dumpTemp := 20, closeTemp := 70, starvationLimit := 8, drainTime := 20
    slotFirst := 0, slotSpan := 4, dryLevel := 50, greyFull := 950 }

/-- The frost controller after power-on reset (R182). -/
def resetFrost : FrostControl :=
  { requested := false, state := .drained, cause := .reset
    heater := { starved := false, tier := false, lockedOut := false, noChannel := true }, drainTimer := none }

end Sys2Proof.Machine
end

