-- ==== Sys2Proof/Machine/State.lean ====
section
/-! DEFINITION. The state of the block, the reasons a command could stop for, and the state after reset. -/

namespace Sys2Proof.Machine

open Sys2Proof

/-- The state of the BK640 (3.1), block by block, with the levels of its switch inputs. `owed` and `pending` are the MODEL's
own fields: `owed` is set while the grant allocator has been informed and has not yet re-evaluated (clear again at the end
of a command, log entry 5), and `pending` is the queue of commands that wait, first in, first out. -/
structure State where
  ports : PerPort Port
  engine : Engine
  modeCtl : ModeControl
  line : LineControl
  polls : Vector PollEntry 32
  meas : Vector MeasRecord 24
  queue : ReadingQueue
  battery : BatteryParams
  account : Account
  entries : Vector Entry 48
  budget : Budget
  sched : Scheduler
  channels : Vector Channel 16
  bank : BankTimers
  motionParams : MotionParams
  step : StepControl
  awning : AwningControl
  wind : WindControl
  frostParams : FrostParams
  frost : FrostControl
  switches : Switches
  owed : Bool
  pending : List Instr
  deriving DecidableEq, Repr

/-- The reasons a command stops the block with a fault. The manual gives every command of the table an effect in every state,
so no meaning raises a fault. -/
inductive Fault where
  /-- Raised by no meaning (safe: there is no command at which the block stops). -/
  | neverRaised
  deriving DecidableEq, Repr

/-- The reasons a command is refused. -/
inductive Refusal where
  /-- A row of the opcode table whose meaning is not modelled yet; no arm of `exec` answers it (safe). -/
  | notModelled (mnemonic : String)
  deriving DecidableEq, Repr

/-- The block after a power-on reset with these strap values and switch levels, with the commands `pending` waiting
(R25, R27, R58, R59, R71, R75, R96, R107, R124, R138, R139, R154, R172, R182). -/
def State.powerOn (straps : Straps) (switches : Switches) (pending : List Instr) : State :=
  { ports := resetPorts straps
    engine := resetEngine
    modeCtl := resetModeControl
    line := resetLine
    polls := Vector.replicate 32 resetPollEntry
    meas := Vector.replicate 24 (freshMeas defaultMeasDescriptor)
    queue := resetQueue
    battery := defaultBattery
    account := resetAccount
    entries := Vector.replicate 48 freeEntry
    budget := resetBudget
    sched := resetScheduler
    channels := resetChannels
    bank := resetBank
    motionParams := defaultMotionParams
    step := resetStep switches
    awning := resetAwning switches defaultMotionParams.pmax 0
    wind := resetWind
    frostParams := defaultFrostParams
    frost := resetFrost
    switches := switches
    owed := false
    pending := pending }

/-- The strap values of the typical board of 2.1: CP0 PANEL, CP1 VEHICLE, CP2 REMOTE (DESIGN CHOICE, log entry 1). -/
def typicalStraps : Straps := { cp0 := 0, cp1 := 1, cp2 := 2 }

/-- Step and awning both retracted (DESIGN CHOICE, log entry 1). -/
def homeSwitches : Switches := { stepIn := true, stepOut := false, awningIn := true }

/-- The machine right after reset: a power-on reset on the typical board with step and awning retracted. -/
def State.reset : State := State.powerOn typicalStraps homeSwitches []

end Sys2Proof.Machine
end

