-- ==== Sys2Proof/Machine/Ops.lean ====
section
/-! DEFINITION. The named operations over the state: reading and writing one element of each group of records, and posting
notices (1.6). -/

namespace Sys2Proof.Machine

open Sys2Proof

/-! ### Groups of like things -/

/-- Element `i` of a fixed group. -/
def vget {α : Type} {n : Nat} (v : Vector α n) (i : Fin n) : α := v[i.1]

/-- The group with element `i` replaced. -/
def vset {α : Type} {n : Nat} (v : Vector α n) (i : Fin n) (x : α) : Vector α n := v.set i.1 x i.2

/-- The value of port `p`. -/
def PerPort.get {α : Type} (x : PerPort α) : PortId → α
  | .cp0 => x.cp0
  | .cp1 => x.cp1
  | .cp2 => x.cp2

/-- The group with the value of port `p` replaced. -/
def PerPort.set {α : Type} (x : PerPort α) (p : PortId) (v : α) : PerPort α :=
  match p with
  | .cp0 => { x with cp0 := v }
  | .cp1 => { x with cp1 := v }
  | .cp2 => { x with cp2 := v }

/-- The same change at every port. -/
def PerPort.map {α β : Type} (f : α → β) (x : PerPort α) : PerPort β :=
  { cp0 := f x.cp0, cp1 := f x.cp1, cp2 := f x.cp2 }

/-- The value of each port from that of two groups. -/
def PerPort.zipWith {α β γ : Type} (f : α → β → γ) (x : PerPort α) (y : PerPort β) : PerPort γ :=
  { cp0 := f x.cp0 y.cp0, cp1 := f x.cp1 y.cp1, cp2 := f x.cp2 y.cp2 }

/-- The habitation mode. -/
def State.mode (s : State) : Mode := s.modeCtl.mode

def State.port (s : State) (p : PortId) : Port := s.ports.get p
def State.setPort (s : State) (p : PortId) (x : Port) : State := { s with ports := s.ports.set p x }
def State.entry (s : State) (i : Fin 48) : Entry := vget s.entries i
def State.setEntry (s : State) (i : Fin 48) (e : Entry) : State := { s with entries := vset s.entries i e }
def State.channel (s : State) (c : Fin 16) : Channel := vget s.channels c
def State.setChannel (s : State) (c : Fin 16) (x : Channel) : State := { s with channels := vset s.channels c x }
def State.measRec (s : State) (k : Fin 24) : MeasRecord := vget s.meas k
def State.setMeas (s : State) (k : Fin 24) (m : MeasRecord) : State := { s with meas := vset s.meas k m }
def State.poll (s : State) (j : Fin 32) : PollEntry := vget s.polls j
def State.setPoll (s : State) (j : Fin 32) (e : PollEntry) : State := { s with polls := vset s.polls j e }
def State.row (s : State) (c : Fin 16) : ChannelRow := vget s.budget.rows c
def State.setRow (s : State) (c : Fin 16) (r : ChannelRow) : State :=
  { s with budget := { s.budget with rows := vset s.budget.rows c r } }
def State.setModeCtl (s : State) (x : ModeControl) : State := { s with modeCtl := x }
def State.setLine (s : State) (x : LineControl) : State := { s with line := x }
def State.setAccount (s : State) (x : Account) : State := { s with account := x }
def State.setBudget (s : State) (x : Budget) : State := { s with budget := x }
def State.setSched (s : State) (x : Scheduler) : State := { s with sched := x }
def State.setStep (s : State) (x : StepControl) : State := { s with step := x }
def State.setAwning (s : State) (x : AwningControl) : State := { s with awning := x }
def State.setWind (s : State) (x : WindControl) : State := { s with wind := x }
def State.setFrost (s : State) (x : FrostControl) : State := { s with frost := x }
def State.setEngine (s : State) (x : Engine) : State := { s with engine := x }
/-- The grant allocator has been informed, or no longer is. -/
def State.setOwed (s : State) (b : Bool) : State := { s with owed := b }

/-- The numbers 0 to n − 1 as indexes, in ascending order. -/
def indexes (n : Nat) : List (Fin n) := List.finRange n

/-- The same event taken at each index in ascending order. -/
def forEach {n : Nat} (f : Fin n → State → State) (s : State) : State := (indexes n).foldl (fun t i => f i t) s

/-! ### Record numbers (R15) -/

/-- The channel of the step bridge and of the awning bridge (2.3). -/
def bridgeChannel : Bridge → Fin 16
  | .step => 14
  | .awning => 15

/-- The record number of a channel descriptor. -/
def channelRecord (c : Fin 16) : Nat := 96 + c.1

/-- The record number of a measurement record. -/
def measRecord (k : Fin 24) : Nat := 64 + k.1

/-- The record number of a poll entry. -/
def pollRecord (j : Fin 32) : Nat := 128 + j.1

/-! ### Notices (1.6) -/

/-- A notice is appended at the newest end of the queue of a port that receives notices. A queue that already holds 8 loses its
oldest and sets its overrun flag (R22), and a copy that an open NOTICE frame took of it is then no longer in the queue (R24).
A DISABLED port receives none (R2). -/
def Port.post (x : Port) (n : Notice) : Port :=
  if x.role = .disabled then x
  else if x.notices.length < Config.noticeQueueDepth then { x with notices := x.notices ++ [n] }
  else
    { x with
      notices := x.notices.drop 1 ++ [n]
      overrun := true
      frame := x.frame.map fun f => { f with notice := f.notice.map fun c => { c with stillOldest := false } } }

/-- A notice posted to all ports (R22). -/
def State.postAll (s : State) (n : Notice) : State := { s with ports := s.ports.map fun x => x.post n }

/-- A notice posted to the PANEL ports (table of 1.6). -/
def State.postPanels (s : State) (n : Notice) : State :=
  { s with ports := s.ports.map fun x => if x.role = .panel then x.post n else x }

/-- A notice posted to one port. -/
def State.postTo (s : State) (p : PortId) (n : Notice) : State := s.setPort p ((s.port p).post n)

/-- The attention line is asserted while the queue holds a notice (R22); a DISABLED port holds it deasserted (R2). -/
def Port.attention (x : Port) : Bool := x.role != .disabled && !x.notices.isEmpty

/-- The ENTRY notice of entry `i`: new state in the high byte, new reason in the low byte (R105). -/
def entryNotice (i : Fin 48) (st : EntryState) (r : Reason) : Notice :=
  { kind := .entry, subject := i.1, value := pairValue st.code r.code }

/-- The ENTRY notice that entry `i` owes for its change from `old`: to its owner, or to its former owner when the event freed it
(R105). `freedReason` is the reason an entry freed by this event is given (R101). -/
def noticeEntry (old : Entry) (freedReason : Reason) (i : Fin 48) (s : State) : State :=
  let e := s.entry i
  if e.state = old.state ∧ e.reason = old.reason then s
  else if e.state = .free then
    match old.owner with
    | some p => s.postTo p (entryNotice i .free freedReason)
    | none => s
  else
    match e.owner with
    | some p => s.postTo p (entryNotice i e.state e.reason)
    | none => s

/-- The ENTRY notices of every entry whose state or reason differs from the one it had in `base`, in ascending entry number
(R105). -/
def noticeEntries (base : Vector Entry 48) (freedReason : Reason) (s : State) : State :=
  forEach (fun i t => noticeEntry (vget base i) freedReason i t) s

/-! ### Entries -/

/-- An entry's standing is set. An entry that becomes HELD, DONE or FREE stops its hold timer (R102), and a granted level is
present only while the entry is GRANTED (6.1.1). -/
def Entry.stand (e : Entry) (st : EntryState) (r : Reason) : Entry :=
  { e with
    state := st
    reason := r
    grantedLevel := if st = .granted then e.grantedLevel else none
    holdTimer := if st = .held ∨ st = .done ∨ st = .free then none else e.holdTimer }

/-- Entry `i` is set to a standing. -/
def State.stand (s : State) (i : Fin 48) (st : EntryState) (r : Reason) : State := s.setEntry i ((s.entry i).stand st r)

/-- A standing in which an entry is a candidate for a steady channel (R111). -/
def EntryState.isCandidate : EntryState → Bool
  | .waiting | .granted | .superseded | .shed | .blocked => true
  | .free | .held | .done => false

/-- Entries 4 to 47 are client entries (6.1). -/
def isClient (i : Fin 48) : Bool := 4 ≤ i.1

/-- The MOTION value of a demand, if it is one. -/
def Demand.motionValue : Demand → Option MotionValue
  | .motion v => some v
  | .none | .level _ | .setpoint _ => Option.none

/-- The classes that a tier sheds (table of R117). -/
def Tier.sheds (t : Tier) (cls : Fin 4) : Bool :=
  match t with
  | .normal => false
  | .conserve => cls = 3
  | .essential => 2 ≤ cls.1
  | .protect => 1 ≤ cls.1

/-- The minutes left that a record shows of a running timer counted in minutes: a started minute counts as one (DEDUCED, log entry 4). A timer
at 0 ms, whose expiry is due and not yet taken, shows 1, within the 1..60 that the tables of 9.1 and 10.1 give a running one (DESIGN CHOICE,
log entry 4). -/
def minutesLeft (ms : Nat) : Nat := max 1 (ceilDiv ms Config.minuteMs)

/-! ### What a consumer reads of a designated record (R64) -/

/-- The freshness that a consumer which calls for `kind` reads of a designated record: a record that is not designated, or is
bound with another kind, is read as NEVER (R64). -/
def State.seenFreshness (s : State) (designated : Option (Fin 24)) (kind : MeasKind) : Freshness :=
  match designated with
  | some k => if (s.measRec k).desc.kind = kind then (s.measRec k).freshness else .never
  | none => .never

/-- The value that a consumer which calls for `kind` reads of a designated record; 0 where it reads NEVER for want of a
designation or a kind (R116, R59). -/
def State.seenValue (s : State) (designated : Option (Fin 24)) (kind : MeasKind) : Int :=
  match designated with
  | some k => if (s.measRec k).desc.kind = kind then (s.measRec k).value else 0
  | none => 0

/-- The filtered level that a consumer reads of a designated LEVEL record (4.4), 0 where there is none. -/
def State.seenLevel (s : State) (designated : Option (Fin 24)) : Nat :=
  match designated with
  | some k => if (s.measRec k).desc.kind = .level then (s.measRec k).filtered else 0
  | none => 0

end Sys2Proof.Machine
end

