-- ==== Sys2Proof/Machine/Operands.lean ====
section
/-! DEFINITION. The operand forms: the record a number names (R15), the fields that a staged image gives a commit, with the field
check that refuses them (R19, R60, R77, R94, R124, R139, R155, R173 and the tables of the owning chapters) and the
clamps of R20, and the readings of a response (11.3). -/

namespace Sys2Proof.Machine

open Sys2Proof

/-! ### Record numbers -/

/-- The records of the store (R15). -/
inductive RecordId where
  | entry (i : Fin 48)
  | meas (k : Fin 24)
  | channel (c : Fin 16)
  | account | budget | battery | mode | vehicle | motion | motionParams | frost | frostParams | slots | line | queue
  | poll (j : Fin 32)
  deriving DecidableEq, Repr

/-- The record that a number lists: 0 to 47, 64 to 87, 96 to 122, 124 and 128 to 159; every other number is unlisted (R15). -/
def recordOf (n : Nat) : Option RecordId :=
  if h : n < 48 then some (.entry ⟨n, h⟩)
  else if h : 64 ≤ n ∧ n < 88 then some (.meas ⟨n - 64, by omega⟩)
  else if h : 96 ≤ n ∧ n < 112 then some (.channel ⟨n - 96, by omega⟩)
  else if h : 128 ≤ n ∧ n < 160 then some (.poll ⟨n - 128, by omega⟩)
  else
    match n with
    | 112 => some .account
    | 113 => some .budget
    | 114 => some .battery
    | 115 => some .mode
    | 116 => some .vehicle
    | 117 => some .motion
    | 118 => some .motionParams
    | 119 => some .frost
    | 120 => some .frostParams
    | 121 => some .slots
    | 122 => some .line
    | 124 => some .queue
    | _ => none

/-- The measurement record that a designation byte names, 64 to 87. -/
def measOf (n : Nat) : Option (Fin 24) := if h : 64 ≤ n ∧ n < 88 then some ⟨n - 64, by omega⟩ else none

/-! ### Bytes of a staged image (R183) -/

/-- Byte `i` of a staging half. -/
def imageByte (img : Vector Byte 32) (i : Nat) : Nat := (img.toList.getD i 0).toNat

/-- The two-byte number at position `i`, high byte first (Chapter 11). -/
def imageWord (img : Vector Byte 32) (i : Nat) : Nat := imageByte img i * 256 + imageByte img (i + 1)

/-- The four-byte number at position `i`. -/
def imageLong (img : Vector Byte 32) (i : Nat) : Nat := imageWord img i * 65536 + imageWord img (i + 2)

/-- The number held in `width` bits above bit `low` of `n` (the packed fields of record 114). -/
def bitField (n low width : Nat) : Nat := n / 2 ^ low % 2 ^ width

/-- A value, where it lies in its range. -/
def inRange (low high n : Nat) : Option Nat := if low ≤ n ∧ n ≤ high then some n else none

/-- A signed value, where it lies in its range. -/
def inRangeInt (low high v : Int) : Option Int := if low ≤ v ∧ v ≤ high then some v else none

/-- A designation: a measurement record 64 to 87, or NONE written as 255 (R183). -/
def designation (n : Nat) : Option (Option (Fin 24)) :=
  if n = 255 then some none else (measOf n).map some

/-- A channel designation of the frost parameters: 0 to 13, or NONE written as 255. -/
def channelDesignation (n : Nat) : Option (Option (Fin 16)) :=
  if n = 255 then some none else if h : n < 14 then some (some ⟨n, by omega⟩) else none

/-! ### Demand entries -/

/-- The MOTION value of a staged MOTION entry: the code in byte 3, and for POSITION the position in byte 4 (R183). -/
def stagedMotion (img : Vector Byte 32) : Option MotionValue :=
  match imageByte img 3 with
  | 0 => some .extend
  | 1 => some .retract
  | 2 => some .stop
  | 3 => some (.position (imageByte img 4))
  | _ => none

/-- Kind and value of a staged entry; `none` where a code is undefined. -/
def stagedDemand (img : Vector Byte 32) : Option Demand :=
  match imageByte img 1 with
  | 0 => some .none
  | 1 => some (.level (imageWord img 2))
  | 2 => some (.setpoint (signed16 (imageWord img 2)))
  | 3 => (stagedMotion img).map .motion
  | _ => none

/-- A demand suits the kind of its channel (R19, R115). -/
def ChannelKind.suits (k : ChannelKind) : Demand → Bool
  | .none => true
  | .level _ => k = .switch ∨ k = .dimmer ∨ k = .heavy ∨ k = .valve
  | .setpoint _ => k = .heavy
  | .motion _ => k = .bridge

/-- The slot fields are those of a HEAVY entry (R19). -/
def slotFieldsOk (first span repetition base : Nat) : Bool :=
  (repetition = 1 ∨ repetition = 2 ∨ repetition = 4 ∨ repetition = 8 ∨ repetition = 16 ∨ repetition = 32 ∨ repetition = 64)
    ∧ base < repetition ∧ first ≤ 15 ∧ 1 ≤ span ∧ first + span ≤ 16

/-- The fields of a staged client entry of a kind other than NONE, before the clamps; `none` where R19 refuses them. -/
def stagedEntry (s : State) (img : Vector Byte 32) : Option EntryFields := do
  let demand ← stagedDemand img
  let persistence ← persistenceOf (imageByte img 6)
  let arm ← armOf (imageByte img 13)
  if hc : imageByte img 0 < 16 then
    if hk : imageByte img 5 < 4 then
      let c : Fin 16 := ⟨imageByte img 0, hc⟩
      let kind := (s.channel c).desc.kind
      let first := imageByte img 9
      let span := imageByte img 10
      let repetition := imageByte img 11
      let base := imageByte img 12
      if kind.suits demand ∧ ¬ (c = 14 ∧ imageByte img 1 = 3 ∧ imageByte img 3 = 3)
          ∧ (kind = .heavy → slotFieldsOk first span repetition base = true) then
        some
          { channel := c, demand := demand, cls := ⟨imageByte img 5, hk⟩, persistence := persistence
            holdTime := imageWord img 7, slotFirst := first, slotSpan := span, repetition := repetition, base := base
            arm := arm }
      else none
    else none
  else none

/-- The value clamps of R20. -/
def clampDemand : Demand → Demand
  | .none => .none
  | .level l => .level (min l 100)
  | .setpoint t => .setpoint (clampInt 50 300 t)
  | .motion (.position p) => .motion (.position (min p 100))
  | .motion .extend => .motion .extend
  | .motion .retract => .motion .retract
  | .motion .stop => .motion .stop

/-- The class as stored: 0 becomes 1 from any port, and 0 and 1 become 2 from a REMOTE port (R20). -/
def clampClass (role : Role) (cls : Fin 4) : Fin 4 :=
  if role = .remote ∧ cls.1 ≤ 1 then 2 else if cls = 0 then 1 else cls

/-- The clamps of R20. -/
def clampEntry (role : Role) (f : EntryFields) : EntryFields :=
  { f with
    demand := clampDemand f.demand
    cls := clampClass role f.cls
    persistence := match f.demand with | .motion _ => .once | .none | .level _ | .setpoint _ => f.persistence
    holdTime := min f.holdTime 1440 }

/-! ### Configuration records -/

/-- The descriptor part of a staged measurement record (R60). -/
def stagedMeas (img : Vector Byte 32) : Option MeasDescriptor := do
  let address ← inRange 0 254 (imageByte img 0)
  let channel ← inRange 0 7 (imageByte img 1)
  let kind ← measKindOf (imageByte img 2)
  let limit ← inRange 1 240 (imageByte img 3)
  some { address := address, channel := channel, kind := kind, staleLimit := limit }

/-- The descriptor part of a staged channel descriptor for channel `c` (R139). -/
def stagedChannel (c : Fin 16) (img : Vector Byte 32) : Option ChannelDescriptor := do
  let kind ← channelKindOf (imageByte img 0)
  let nominal ← inRange 0 250 (imageByte img 1)
  let trip ← inRange (nominal + 1) 300 (imageWord img 2)
  let ramp ← inRange 1 100 (imageByte img 4)
  let inrush ← inRange 0 2000 (imageWord img 5)
  if kind = .bridge ↔ 14 ≤ c.1 then
    some { kind := kind, nominal := nominal, trip := trip, rampRate := ramp, inrushTime := inrush }
  else none

/-- The efficiency byte: 0 stands for 256, and 1 to 199 are undefined (R183). -/
def efficiencyOf (n : Nat) : Option Nat := if n = 0 then some 256 else inRange 200 255 n

/-- The staged battery parameters (R77; packed fields as in 11.5). -/
def stagedBattery (img : Vector Byte 32) : Option BatteryParams := do
  let capacity ← inRange 10 2000 (imageWord img 0)
  let efficiency ← efficiencyOf (imageByte img 2)
  let derating ← inRange 0 15 (imageByte img 3)
  let full ← inRange 1 65535 (imageWord img 4)
  let tailCurrent ← inRange 0 32767 (imageWord img 6)
  let tailTime ← inRange 10 600 (imageWord img 8)
  let protectCount ← inRange 1 40 (imageByte img 12)
  let thresholds := imageLong img 13
  let t1 ← inRange 0 1000 (bitField thresholds 22 10)
  let t2 ← inRange 0 1000 (bitField thresholds 12 10)
  let t3 ← inRange 0 1000 (bitField thresholds 2 10)
  let hysteresis ← inRange 0 100 (imageByte img 17)
  let allowances := imageLong img 18 * 65536 + imageWord img 22
  let aNormal ← inRange 0 2000 (bitField allowances 37 11)
  let aConserve ← inRange 0 2000 (bitField allowances 26 11)
  let aEssential ← inRange 0 2000 (bitField allowances 15 11)
  let aProtect ← inRange 0 2000 (bitField allowances 4 11)
  let busLimit ← inRange 0 2000 (imageWord img 24)
  let maxInterval ← inRange 250 4000 (imageWord img 26)
  let current ← measOf (imageByte img 28)
  let voltage ← measOf (imageByte img 29)
  let temperature ← measOf (imageByte img 30)
  let interval ← measOf (imageByte img 31)
  if t1 > t2 ∧ t2 > t3 ∧ [current, voltage, temperature, interval].Nodup then
    some
      { capacityAh := capacity, efficiency := efficiency, derating := derating, fullVoltage := full
        tailCurrent := tailCurrent, tailTime := tailTime, protectVoltage := imageWord img 10
        protectCount := protectCount, t1 := t1, t2 := t2, t3 := t3, hysteresis := hysteresis
        allowNormal := aNormal, allowConserve := aConserve, allowEssential := aEssential, allowProtect := aProtect
        busLimit := busLimit, maxInterval := maxInterval, current := some current, voltage := some voltage
        temperature := some temperature, interval := some interval }
  else none

/-- The staged motion parameters (R155). -/
def stagedMotionParams (img : Vector Byte 32) : Option MotionParams := do
  let travelMax ← inRange 5 100 (imageByte img 0)
  let jamCurrent ← inRange 1 300 (imageWord img 1)
  let jamTime ← inRange 1 10 (imageByte img 3)
  let pmax ← inRange 100 4000 (imageWord img 4)
  let stall ← inRange 1 20 (imageByte img 6)
  let slack ← inRange 0 200 (imageByte img 7)
  let timeout ← inRange 10 90 (imageByte img 8)
  let wind ← designation (imageByte img 9)
  let windLimit ← inRange 0 600 (imageWord img 10)
  let windCount ← inRange 1 10 (imageByte img 12)
  let gust ← inRange windLimit 600 (imageWord img 13)
  let hold ← inRange 1 60 (imageByte img 15)
  some
    { stepTravelMax := travelMax, stepJamCurrent := jamCurrent, stepJamTime := jamTime, pmax := pmax
      stallInterval := stall, syncSlack := slack, awningTravelTimeout := timeout, wind := wind
      windLimit := windLimit, windCount := windCount, gustLimit := gust, windHoldTime := hold }

/-- No two of the three channels name the same channel; NONE may stand in more than one of them (R173). -/
def distinctChannels (a b c : Option (Fin 16)) : Bool :=
  (a = none ∨ a ≠ b) ∧ (b = none ∨ b ≠ c) ∧ (a = none ∨ a ≠ c)

/-- The staged frost parameters (R173). -/
def stagedFrostParams (img : Vector Byte 32) : Option FrostParams := do
  let enable ← flagOf (imageByte img 0)
  let tank ← designation (imageByte img 1)
  let outside ← designation (imageByte img 2)
  let fresh ← designation (imageByte img 3)
  let grey ← designation (imageByte img 4)
  let valve ← channelDesignation (imageByte img 5)
  let heater ← channelDesignation (imageByte img 6)
  let pump ← channelDesignation (imageByte img 7)
  let watch ← inRangeInt (-400) 850 (signed16 (imageWord img 8))
  let hold ← inRangeInt (-400) 850 (signed16 (imageWord img 10))
  let dump ← inRangeInt (-400) 850 (signed16 (imageWord img 12))
  let close ← inRangeInt (-400) 850 (signed16 (imageWord img 14))
  let limit ← inRange 1 32 (imageByte img 16)
  let drain ← inRange 1 60 (imageByte img 17)
  let first ← inRange 0 15 (imageByte img 18)
  let span ← inRange 1 16 (imageByte img 19)
  let dry ← inRange 0 1000 (imageWord img 20)
  let greyFull ← inRange 0 1000 (imageWord img 22)
  if dump < hold ∧ hold < close ∧ first + span ≤ 16 ∧ distinctChannels valve heater pump = true then
    some
      { enable := enable, tank := tank, outside := outside, fresh := fresh, grey := grey, valve := valve
        heater := heater, pump := pump, watchTemp := watch, holdTemp := hold, dumpTemp := dump, closeTemp := close
        starvationLimit := limit, drainTime := drain, slotFirst := first, slotSpan := span, dryLevel := dry
        greyFull := greyFull }
  else none

/-! ### What a commit orders -/

/-- What a commit that passes the field check asks of the owning block. -/
inductive CommitOrder where
  | release (i : Fin 48)
  | entry (i : Fin 48) (f : EntryFields)
  | meas (k : Fin 24) (d : MeasDescriptor)
  | channel (c : Fin 16) (d : ChannelDescriptor)
  | seed (v : Nat)
  | battery (p : BatteryParams)
  | mode (r : ModeRequest)
  | vehicle (ignition moving : Bool)
  | motionParams (p : MotionParams)
  | valveClose
  | frostParams (p : FrostParams)
  | slots (length : Nat) (cabin : Option (Fin 24))
  | line (shunt : Nat) (enable : Bool) (low high : Nat)
  | poll (j : Fin 32) (address : Nat)
  deriving DecidableEq, Repr

/-- The slot length: 1, 2, 4 or 8 s (R124). -/
def slotLengthOk (n : Nat) : Bool := n = 1 ∨ n = 2 ∨ n = 4 ∨ n = 8

/-- The order that a staged image makes to a record from a port of role `role`, clamped as R20 gives; `none` where the field check
refuses it (R19), and for the records that no port writes. -/
def stagedOrder (s : State) (role : Role) (img : Vector Byte 32) : RecordId → Option CommitOrder
  | .entry i =>
    if imageByte img 1 = 0 then some (.release i) else (stagedEntry s img).map fun f => .entry i (clampEntry role f)
  | .meas k => (stagedMeas img).map (.meas k)
  | .channel c => (stagedChannel c img).map (.channel c)
  | .account => (inRange 0 1000 (imageWord img 0)).map .seed
  | .battery => (stagedBattery img).map .battery
  | .mode => (modeRequestOf (imageByte img 0)).map .mode
  | .vehicle => do
    let ignition ← flagOf (imageByte img 0)
    let moving ← flagOf (imageByte img 1)
    some (.vehicle ignition moving)
  | .motionParams => (stagedMotionParams img).map .motionParams
  | .frost => if imageByte img 0 = 1 then some .valveClose else none
  | .frostParams => (stagedFrostParams img).map .frostParams
  | .slots =>
    if slotLengthOk (imageByte img 0) then (designation (imageByte img 1)).map (.slots (imageByte img 0)) else none
  | .line => do
    let shunt ← inRange 0 254 (imageByte img 0)
    let enable ← flagOf (imageByte img 1)
    let high ← inRange 1 254 (imageByte img 3)
    let low ← inRange 1 high (imageByte img 2)
    some (.line shunt enable low high)
  | .poll j => (inRange 0 254 (imageByte img 0)).map (.poll j)
  | .budget | .motion | .queue => none

/-- A field of a staged entry image is changed by a clamp (R20). -/
def stagedClamped (s : State) (role : Role) (img : Vector Byte 32) : RecordId → Bool
  | .entry _ => imageByte img 1 ≠ 0 && (stagedEntry s img).any fun f => clampEntry role f ≠ f
  | .meas _ | .channel _ | .account | .budget | .battery | .mode | .vehicle | .motion | .motionParams | .frost
  | .frostParams | .slots | .line | .queue | .poll _ => false

/-! ### Readings of a response (R49, R52, 11.3) -/

/-- The reading that three response characters carry, sent from `address`; `none` where the valid bit is 0 or the kind code is
undefined, so that the reading is dropped (R52). -/
def readingOf (address : Nat) (head high low : Byte) : Option Reading :=
  if head.toNat < 128 then none
  else
    (measKindOf (head.toNat / 16 % 8)).map fun kind =>
      let raw := high.toNat * 256 + low.toNat
      { address := address, channel := head.toNat % 8, kind := kind
        value := if kind.signed then signed16 raw else (raw : Int) }

/-- The readings of a response, in the order received, from its characters after the count. -/
def readingsOf (address : Nat) : List Byte → List Reading
  | head :: high :: low :: rest =>
    match readingOf address head high low with
    | some r => r :: readingsOf address rest
    | none => readingsOf address rest
  | _ => []

end Sys2Proof.Machine
end

