-- ==== Sys2Proof/Machine/Flags.lean ====
section
/-! DEFINITION. Every flag computation: the port status and its bytes (11.1), the clearing of COLLIDED and ABORTED (R6), the
configuration flags (R28), the heater's causes (R177), and the wind, extend and readiness verdicts (R168, R169, R170). -/

namespace Sys2Proof.Machine

open Sys2Proof

/-! ### Port status -/

/-- The status of a port as it stands (1.2.3). -/
def Port.status (x : Port) : PortStatus :=
  { role := x.role, staging := x.staging.state, readout := x.readout.state, collided := x.collided, aborted := x.aborted
    noticeCount := x.notices.length, overrun := x.overrun, judged := x.judged, lastResult := x.lastResult
    lastRecord := x.lastRecord }

/-- The four status bytes (11.1). -/
def PortStatus.bytes (st : PortStatus) : List Byte :=
  [ byteOf (st.role.code * 64 + st.staging.code * 16 + st.readout.code * 4 + flagCode st.collided * 2 + flagCode st.aborted)
  , byteOf (st.noticeCount * 16 + flagCode st.overrun * 8 + st.judged % 8)
  , byteOf st.lastResult.code
  , byteOf st.lastRecord ]

/-- COLLIDED and ABORTED are cleared in the frame whose status copy shows them set (R6). -/
def Port.clearShown (x : Port) (copy : PortStatus) : Port :=
  { x with collided := x.collided && !copy.collided, aborted := x.aborted && !copy.aborted }

/-! ### Configuration flags (R28) -/

/-- A designated record holds a sender address other than 0. -/
def State.bound (s : State) (designated : Option (Fin 24)) : Bool :=
  match designated with
  | some k => (s.measRec k).desc.address ≠ 0
  | none => false

/-- The configuration flags recomputed after a taken commit of record 114 or of a measurement record descriptor, with battery
parameters committed as given (R28). -/
def State.recomputeFlags (s : State) (committed : Bool) : State :=
  let shunt := committed && s.bound s.battery.current && s.bound s.battery.voltage && s.bound s.battery.temperature
    && s.bound s.battery.interval
  s.setModeCtl
    { s.modeCtl with batteryCommitted := committed, shuntBound := shunt, configured := committed && shunt }

/-! ### Heater (R177) -/

/-- The causes for which the heater is UNAVAILABLE. -/
def State.heaterCauses (s : State) : HeaterCauses :=
  { starved := s.frostParams.starvationLimit ≤ (s.entry 0).starvation
    tier := s.account.tier = .protect
    lockedOut :=
      match s.frostParams.heater with
      | some c => (s.channel c).state = .lockedOut
      | none => false
    noChannel := s.frostParams.heater = none }

/-- The heater is UNAVAILABLE while any cause holds. -/
def HeaterCauses.unavailable (h : HeaterCauses) : Bool := h.starved || h.tier || h.lockedOut || h.noChannel

/-- The heater byte of the frost record: 0 AVAILABLE, otherwise the sum of its causes (11.5). -/
def HeaterCauses.code (h : HeaterCauses) : Nat :=
  flagCode h.starved + 2 * flagCode h.tier + 4 * flagCode h.lockedOut + 8 * flagCode h.noChannel

/-! ### Motion verdicts -/

/-- Whether the wind is known (R168). -/
def State.windKnown (s : State) : WindKnown :=
  match s.motionParams.wind with
  | none => .unwatched
  | some _ => if s.seenFreshness s.motionParams.wind .wind = .fresh then .known else .unknown

/-- The wind hold is active while its timer runs (R167). -/
def State.windHold (s : State) : Bool := s.wind.holdTimer.isSome

/-- The awning extend verdict is BLOCKED (R168). -/
def State.awningBlocked (s : State) : Bool := s.mode = .travel || s.windHold || s.windKnown = .unknown

/-- The step extend verdict is BLOCKED (R169). -/
def State.stepBlocked (s : State) : Bool := s.mode = .travel || s.modeCtl.ignition

/-- The readiness verdict is READY (R170). -/
def State.ready (s : State) : Bool := s.step.state = .retracted && s.awning.state = .retracted

/-- The step machine is in an operation (R157). -/
def StepControl.inOperation (m : StepControl) : Bool :=
  m.state = .extending || m.state = .retracting || m.state = .reversing || m.jamRetry = .pending

/-- The awning machine is in an operation (R157). -/
def AwningControl.inOperation (m : AwningControl) : Bool :=
  m.state = .extending || m.state = .retracting || m.state = .reversing || m.stallRetry = .pending

/-- The step bridge is driving in (R157). -/
def State.stepDrivingIn (s : State) : Bool :=
  s.step.state = .retracting || (s.step.state = .reversing && (s.channel 14).pendingDir = .inward) || s.step.jamRetry = .pending

/-- The awning bridge is driving in (R157). -/
def State.awningDrivingIn (s : State) : Bool :=
  s.awning.state = .retracting || (s.awning.state = .reversing && (s.channel 15).pendingDir = .inward)
    || s.awning.stallRetry = .pending

/-- What the motion controller reports of a bridge: in an operation, and driving in (R157). -/
def State.reports (s : State) : Bool × Bool × Bool × Bool :=
  (s.step.inOperation, s.stepDrivingIn, s.awning.inOperation, s.awningDrivingIn)

/-- Both extend verdicts as the motion controller hands them to the allocator (R168, R169). -/
def State.verdicts (s : State) : Bool × Bool := (s.stepBlocked, s.awningBlocked)

/-- The wind has changed between KNOWN and UNKNOWN, of which the allocator is informed whatever the verdict (R168). A change into or out of
UNWATCHED is not such a change. -/
def WindKnown.turns : WindKnown → WindKnown → Bool
  | .known, .unknown | .unknown, .known => true
  | .known, .known | .unknown, .unknown | .unwatched, _ | _, .unwatched => false

end Sys2Proof.Machine
end

