-- ==== Sys2Proof/Machine/Bank.lean ====
section
/-! DEFINITION. What the output channel bank does to one channel (Chapter 8): switching, levels, trips, lockout and the bridge
commands; and the end of a heavy run (7.5), which switches its channel off. -/

namespace Sys2Proof.Machine

open Sys2Proof

/-! ### One channel -/

/-- A channel is energised while it drives its load (R141). -/
def Channel.energised (x : Channel) : Bool :=
  match x.state with
  | .on | .driveOut | .driveIn => true
  | .ramping | .lit => 0 < x.present
  | .off | .stopped | .dead | .tripped | .lockedOut => false

/-- A channel in TRIPPED or LOCKED_OUT takes no grant, run or command (R142). -/
def Channel.barred (x : Channel) : Bool := x.state = .tripped || x.state = .lockedOut

/-- The state of a channel of this kind at rest (8.1). -/
def ChannelKind.rest : ChannelKind → ChannelState
  | .bridge => .stopped
  | .unused | .switch | .dimmer | .heavy | .valve => .off

/-- The inrush window opens at a switch-on (R148); an inrush time of 0 opens none. -/
def Channel.openInrush (x : Channel) : Channel :=
  { x with inrush := if x.desc.inrushTime = 0 then none else some x.desc.inrushTime }

/-- A SWITCH or VALVE channel takes the level handed to it, or no grant (R143). -/
def Channel.grantSwitch (x : Channel) (level : Option Nat) : Channel :=
  if x.barred then x
  else if level.any (0 < ·) then (if x.state = .on then x else { x with state := .on }.openInrush)
  else { x with state := .off }

/-- A dimmer's levels and duty at 0 at once (R145, R147). -/
def Channel.dark (x : Channel) : Channel := { x with target := 0, present := 0, shadow := 0, duty := 0 }

/-- A DIMMER channel takes the level handed to it, or no grant (R145). -/
def Channel.grantDimmer (x : Channel) (level : Option Nat) : Channel :=
  if x.barred then x
  else
    match level with
    | some l =>
      if 0 < l then { x with target := l, state := if x.present = l then .lit else .ramping }
      else { x.dark with state := .off }
    | none => { x.dark with state := .off }

/-- A ramp event at one channel (R146). The present level is written into the duty shadow (R147). -/
def Channel.ramp (x : Channel) : Channel :=
  if x.desc.kind = .dimmer ∧ x.state = .ramping then
    let rate := x.desc.rampRate
    let next :=
      if x.present < x.target then (if x.target - x.present ≤ rate then x.target else x.present + rate)
      else if x.present - x.target ≤ rate then x.target else x.present - rate
    let moved := { x with present := next, shadow := next, state := if next = x.target then .lit else .ramping }
    if x.present = 0 ∧ 0 < next then moved.openInrush else moved
  else x

/-- The end of a pulse period at one channel: the duty in force is loaded from its shadow (R147). -/
def Channel.pulseEnd (x : Channel) : Channel := if x.desc.kind = .dimmer then { x with duty := x.shadow } else x

/-- A run start switches an OFF channel ON (R144). -/
def Channel.runOn (x : Channel) : Channel := if x.state = .off then { x with state := .on }.openInrush else x

/-- The end of a run switches its channel OFF (R144). -/
def Channel.runOff (x : Channel) : Channel := if x.state = .on then { x with state := .off } else x

/-- The current that a sense event reads of a channel: 0 where it had no on-part in the period, and limited to 0..1000
(R148). A dimmer's on-part is its duty in force; any other channel has one while energised (DEDUCED, log entry 15). -/
def Channel.sampled (x : Channel) (current : Nat) : Nat :=
  let onPart := if x.desc.kind = .dimmer then 0 < x.duty else x.energised
  if onPart then min current 1000 else 0

/-- The threshold of the current sense: twice the trip current while the inrush window is open (R148). -/
def Channel.threshold (x : Channel) : Nat := if x.inrush.isSome then 2 * x.desc.trip else x.desc.trip

/-- The retry time after the trip that makes this trip count; none after the fourth (R149). -/
def retryAfter : Nat → Timer
  | 1 => some 1000
  | 2 => some 4000
  | 3 => some 16000
  | _ => none

/-- A trip (R149): off at once, levels and duty 0, any pending direction dropped, one more trip, and LOCKED_OUT at the fourth. -/
def Channel.tripNow (x : Channel) : Channel :=
  let count := satInc 4 x.tripCount
  { x.dark with
    state := if 4 ≤ count then .lockedOut else .tripped
    tripCount := count
    cleanTime := 0
    retryTimer := retryAfter count
    deadTimer := none
    pendingDir := .none }

/-- The retry expiry of a TRIPPED channel: at rest, with its trip count kept (R150). -/
def Channel.retryNow (x : Channel) : Channel := { x with state := x.desc.kind.rest, retryTimer := none }

/-- The clearing of a lockout (R152). -/
def Channel.clearLockout (x : Channel) : Channel := { x with state := x.desc.kind.rest, tripCount := 0, cleanTime := 0 }

/-- A taken descriptor commit (R140): a change of kind resets the channel, an unchanged kind keeps its status part. -/
def Channel.describe (x : Channel) (d : ChannelDescriptor) : Channel :=
  if x.desc.kind = d.kind then { x with desc := d }
  else { x.dark with desc := d, state := d.kind.rest, tripCount := 0, cleanTime := 0, retryTimer := none }

/-- The drive state of a direction. -/
def driveState : Direction → ChannelState
  | .outward => .driveOut
  | .inward => .driveIn
  | .none => .stopped

/-- A bridge starts to drive: switched on, with its inrush window open (R153). -/
def Channel.startDrive (x : Channel) (d : Direction) : Channel :=
  { x with state := driveState d, deadTimer := none, pendingDir := .none }.openInrush

/-- A drive command toward `d` (table of 8.6). -/
def Channel.driveCommand (x : Channel) (d : Direction) : Channel :=
  match x.state with
  | .driveOut | .driveIn =>
    if x.state = driveState d then x else { x with state := .dead, deadTimer := some Config.deadMs, pendingDir := d }
  | .dead => { x with pendingDir := d }
  | .tripped | .lockedOut => x
  | .off | .on | .ramping | .lit | .stopped => x.startDrive d

/-- The STOP command (table of 8.6). -/
def Channel.stopCommand (x : Channel) : Channel :=
  match x.state with
  | .driveOut | .driveIn => { x with state := .dead, deadTimer := some Config.deadMs, pendingDir := .none }
  | .dead => { x with pendingDir := .none }
  | .off | .on | .ramping | .lit | .stopped | .tripped | .lockedOut => x

/-- The dead timer's expiry (table of 8.6). -/
def Channel.deadNow (x : Channel) : Channel :=
  match x.pendingDir with
  | .none => { x with state := .stopped, deadTimer := none }
  | d => x.startDrive d

/-! ### The bank's notices and the end of a run -/

/-- The CHANNEL notice of entering or leaving LOCKED_OUT (R152). -/
def channelNotice (c : Fin 16) (former new : ChannelState) : Notice :=
  { kind := .channel, subject := channelRecord c, value := pairValue former.code new.code }

/-- Channel `c` has its lockout cleared, with its CHANNEL notice, if it is LOCKED_OUT (R152). -/
def State.clearLockout (s : State) (c : Fin 16) : State :=
  let x := s.channel c
  if x.state = .lockedOut then
    (s.setChannel c x.clearLockout).postAll (channelNotice c .lockedOut x.desc.kind.rest)
  else s

/-- The present run ends, whatever its entry becomes: its channel is switched off, the present run becomes NONE and the channel's
row holds no entry at level 0 (R135, R136). -/
def State.dropRun (s : State) : State :=
  match s.budget.run with
  | none => s
  | some r =>
    let t := s.setChannel r.channel (s.channel r.channel).runOff
    let t := t.setRow r.channel { t.row r.channel with entry := none, level := 0 }
    t.setBudget { t.budget with run := none }

/-- Entry `i` holds the present run. -/
def State.holdsRun (s : State) (i : Fin 48) : Bool := s.budget.run.any fun r => r.entry = i

/-- The present run ends with its entry left in this standing (R131, R135): an entry GRANTED for the run takes it. -/
def State.endRunAs (s : State) (st : EntryState) (r : Reason) : State :=
  match s.budget.run with
  | none => s
  | some run => if (s.entry run.entry).state = .granted then s.dropRun.stand run.entry st r else s.dropRun

/-- The present run ends if entry `i` holds it (R136). -/
def State.dropRunOf (s : State) (i : Fin 48) : State := if s.holdsRun i then s.dropRun else s

/-! ### Internal entries (6.1.2) -/

/-- The present run ends, with its entry WAITING, where entry `i` holds it and moves to another channel (R136). That an internal entry which
its controller arms on another channel ends its run likewise is DEDUCED (log entry 23). -/
def State.endRunOfMoved (s : State) (i : Fin 48) (c : Fin 16) : State :=
  if s.holdsRun i ∧ c ≠ (s.entry i).fields.channel then s.endRunAs .waiting .none else s

/-- The owning controller writes the fields of an internal entry (R98). -/
def State.armEntry (s : State) (i : Fin 48) (f : EntryFields) : State :=
  let t := s.endRunOfMoved i f.channel
  let e : Entry := { t.entry i with fields := f }
  t.setEntry i (if e.state = .free ∨ e.state = .held ∨ e.state = .done then e.stand .waiting .none else e)

/-- An entry returned to FREE (R96); a heavy run that it held ends (R136). -/
def State.freeEntry (s : State) (i : Fin 48) : State := (s.dropRunOf i).setEntry i Sys2Proof.Machine.freeEntry

end Sys2Proof.Machine
end

