-- ==== Sys2Proof/Machine/StepMachine.lean ====
section
/-! DEFINITION. The entry step (9.3): demands, drives, switches, jams and results. Where a rule informs the grant allocator, the
state is marked as owing a re-evaluation (`setOwed`); the re-evaluation itself is made by the event (Machine/Allocator.lean). -/

namespace Sys2Proof.Machine

open Sys2Proof

/-- A MOTION notice: 110 for the step and 111 for the awning, with the event code in the high byte and the machine's state after
the event in the low byte (R171). -/
def State.postMotion (s : State) (b : Bridge) (ev : MotionEvent) : State :=
  s.postAll
    { kind := .motion
      subject := channelRecord (bridgeChannel b)
      value := pairValue ev.code (match b with | .step => s.step.state.code | .awning => s.awning.state.code) }

/-- The entry of an ended operation becomes DONE (R157). An entry that has in the meantime been freed or held, has become DONE for EXPIRED at its
hold timer, or has moved to another channel is left as it stands; so is one that is DONE for JAMMED, as the entry of an automatic return is when
its owner's recommit as STOP takes the return over: the COMPLETE of R159 does not follow on it (DESIGN CHOICE, log entry 12). -/
def State.finishEntry (s : State) (b : Bridge) (i : Fin 48) (r : Reason) : State :=
  let e := s.entry i
  if e.state.isCandidate ∧ e.fields.channel = bridgeChannel b then s.stand i .done r else s

/-- The step's state with the operation and its timing gone (R157); the retry mark becomes NONE with the operation (R159). -/
def StepControl.idle (m : StepControl) : StepControl :=
  { m with operation := none, autoReturn := false, jamRetry := .none, jamRun := 0, travelTimer := none, retryTimer := none }

/-- The step's operation ends with a result (R157). -/
def State.stepFinish (s : State) (r : Reason) : State :=
  let t := match s.step.operation with
    | some o => s.finishEntry .step o.entry r
    | none => s
  (t.setStep t.step.idle).setOwed true

/-- The machine is resolved from its switches (R158). -/
def State.stepResolve (s : State) : State := s.setStep { s.step with state := resolvedStep s.switches s.mode }

/-- The step is set to a state. -/
def State.stepTo (s : State) (st : StepState) : State := s.setStep { s.step with state := st }

/-- The controller commands STOP; the travel timer stops with the drive (R158, R161). -/
def State.stepStop (s : State) : State :=
  (s.setChannel 14 (s.channel 14).stopCommand).setStep { s.step with travelTimer := none }

/-- The bank reports a drive start toward `d` (R158). -/
def State.stepStarted (s : State) (d : Direction) : State :=
  s.setStep
    { s.step with
      state := if d = .outward then .extending else .retracting
      travelTimer := some (s.motionParams.stepTravelMax * 100)
      jamRun := 0 }

/-- The controller commands a drive toward `d` (R158): it starts at once from STOPPED, waits as the pending direction in DEAD, and is
refused in TRIPPED and LOCKED_OUT, which leaves the machine resolved with no operation. -/
def State.stepDrive (s : State) (d : Direction) : State :=
  let x := s.channel 14
  if x.barred then
    let t := s.stepResolve
    t.setStep t.step.idle
  else
    let y := x.driveCommand d
    let t := s.setChannel 14 y
    if x.state = driveState d then t
    else if y.state = .dead then t.setStep { t.step with state := .reversing, travelTimer := none }
    else t.stepStarted d

/-- FAULT or JAMMED is cleared by a STOP demand (R159). -/
def State.stepClear (s : State) : State :=
  let t := s.stepResolve
  let t := t.setStep { t.step with timeouts := 0, jamRetry := .none }
  if t.step.state = .fault then (t.stepFinish .fault).postMotion .step .fault
  else (t.stepFinish .complete).postMotion .step .cleared

/-- A demand of the step carried out from its present state (table of R159). A POSITION demand cannot reach the step (R19); it
would end with no movement. In HALTED with a jam retry PENDING and the switch of the demand's end active the table and the text on the retry
differ: an EXTEND demand takes the table's COMPLETE, with the retry dropped, and a RETRACT demand keeps the retry PENDING, as the text says
(DESIGN CHOICE, log entry 42). -/
def State.stepCarry (s : State) (v : MotionValue) : State :=
  match s.step.state with
  | .retracted =>
    match v with
    | .extend => s.stepDrive .outward
    | .retract | .stop | .position _ => s.stepFinish .complete
  | .extended =>
    match v with
    | .retract => s.stepDrive .inward
    | .extend | .stop | .position _ => s.stepFinish .complete
  | .halted =>
    match v with
    | .extend => if s.switches.stepOut then s.stepFinish .complete else s.stepDrive .outward
    | .retract =>
      if s.step.jamRetry = .pending then s
      else if s.switches.stepIn then s.stepFinish .complete else s.stepDrive .inward
    | .stop | .position _ => s.stepResolve.stepFinish .complete
  | .extending =>
    match v with
    | .extend => s
    | .retract => s.stepDrive .inward
    | .stop | .position _ => s.stepStop.stepResolve.stepFinish .complete
  | .retracting =>
    match v with
    | .extend => s.stepDrive .outward
    | .retract => s
    | .stop | .position _ => s.stepStop.stepResolve.stepFinish .complete
  | .reversing =>
    match v with
    | .extend => s.stepDrive .outward
    | .retract => s.stepDrive .inward
    | .stop | .position _ => s.stepStop.stepResolve.stepFinish .complete
  | .jammed =>
    match v with
    | .stop => s.stepClear
    | .extend | .retract | .position _ => s.stepFinish .jammed
  | .fault =>
    match v with
    | .stop => s.stepClear
    | .extend | .retract | .position _ => s.stepFinish .fault

/-- The operation becomes that of a new demand (R156). An automatic return first ends under R157, with its entry DONE for JAMMED and its
timing stopped. The retry mark is kept by a RETRACT demand that takes over a RETRACT operation, and is otherwise NONE (R159). The inward drive of
an automatic return that a RETRACT demand takes over so goes on with no travel timer running (DESIGN CHOICE, log entry 46). -/
def State.stepAccept (s : State) (o : Operation) : State :=
  let t := if s.step.autoReturn then s.stepFinish .jammed else s
  let m := t.step
  let keep := o.value = .retract ∧ m.operation.any (fun p => p.value = .retract)
  t.setStep
    { m with
      operation := some o
      jamRetry := if keep then m.jamRetry else .none
      retryTimer := if keep then m.retryTimer else none }

/-- The bridge has lost its grant (R156). -/
def State.stepLoss (s : State) : State :=
  let t := if s.step.inOperation then s.stepStop.stepResolve else s
  t.setStep t.step.idle

/-- The allocator hands the step its grant or no grant (R156). -/
def State.stepHand (s : State) (g : Option Operation) : State :=
  match g with
  | none => if s.step.operation.isSome ∨ s.step.inOperation then s.stepLoss else s
  | some o => if s.step.operation = some o then s else (s.stepAccept o).stepCarry o.value

/-- The bank reports a trip or lockout of the driving step bridge (R158): resolved with no operation, and DONE with reason JAMMED
where the operation was an automatic return or drove under a jam retry. -/
def State.stepTripped (s : State) : State :=
  let t := s.stepResolve
  if s.step.autoReturn ∨ s.step.jamRetry = .used then t.stepFinish .jammed else t.setStep t.step.idle

/-- The step reaches the end it was sought to: STOP, resolved, and the entry DONE with this reason (R160). -/
def State.stepArrive (s : State) (r : Reason) : State := s.stepStop.stepResolve.stepFinish r

/-- Both switches are active at once: STOP, FAULT, and the entry of any operation DONE with reason FAULT (R160). -/
def State.stepBothActive (s : State) : State :=
  let t := s.stepStop.stepTo .fault
  let t := if t.step.operation.isSome then t.stepFinish .fault else t.setStep t.step.idle
  t.postMotion .step .fault

/-- The step stands where an activation at any other time resolves it: RETRACTED, EXTENDED or HALTED with no operation (R160). -/
def StepControl.standing (m : StepControl) : Bool :=
  (m.state = .retracted || m.state = .extended || m.state = .halted) && m.operation.isNone

/-- An activation of the in-switch (`inSwitch`) or the out-switch, its level already taken (R160). Both switches active at once
make FAULT from every state other than FAULT, JAMMED included (DEDUCED, log entry 13). An out-switch that becomes active while the step is
HALTED with a retry PENDING zeroes the timeout count alone: state and retry stay (DESIGN CHOICE, log entry 38). -/
def State.stepActivated (s : State) (inSwitch : Bool) : State :=
  let s := s.setStep { s.step with timeouts := 0 }
  let pending := (s.channel 14).pendingDir
  if s.step.state = .fault then s
  else if s.switches.stepIn ∧ s.switches.stepOut then s.stepBothActive
  else if s.step.state = .jammed then s
  else if inSwitch then
    if s.step.state = .retracting ∨ (s.step.state = .reversing ∧ pending = .inward)
        ∨ (s.step.state = .halted ∧ s.step.jamRetry = .pending) then
      s.stepArrive (if s.step.autoReturn then .jammed else .complete)
    else if s.step.standing then s.stepResolve else s
  else if s.step.state = .extending ∨ (s.step.state = .reversing ∧ pending = .outward) then s.stepArrive .complete
  else if s.step.standing then s.stepResolve else s

/-- A deactivation of a step switch resolves a step that stands RETRACTED or EXTENDED (R160). -/
def State.stepDeactivated (s : State) : State :=
  if (s.step.state = .retracted ∨ s.step.state = .extended) ∧ s.step.operation.isNone then s.stepResolve else s

/-- The travel timer expires (R161): HALTED at the first timeout in a row, FAULT at the second. -/
def State.stepTimeout (s : State) : State :=
  let auto := s.step.autoReturn
  let t := s.stepStop
  let count := satInc 2 t.step.timeouts
  let t := t.setStep { t.step with timeouts := count }
  if count = 1 then
    ((t.stepTo .halted).stepFinish (if auto then .jammed else .timeout)).postMotion .step .timeout
  else ((t.stepTo .fault).stepFinish .fault).postMotion .step .fault

/-- A jam, by the step's state (R162). Each jam posts JAM, and one that makes the step JAMMED posts JAMMED after it (R171). -/
def State.stepJam (s : State) : State :=
  match s.step.state with
  | .extending =>
    let t := s.stepDrive .inward
    (t.setStep { t.step with autoReturn := true }).postMotion .step .jam
  | .retracting =>
    if s.step.autoReturn ∨ s.step.jamRetry = .used then
      (((s.stepStop.stepTo .jammed).stepFinish .jammed).postMotion .step .jam).postMotion .step .jammed
    else
      let t := s.stepStop.stepTo .halted
      (t.setStep { t.step with jamRetry := .pending, retryTimer := some Config.retryMs }).postMotion .step .jam
  | .retracted | .extended | .reversing | .halted | .jammed | .fault => s

/-- A current sample taken while the step bridge drives (R162). `inrush` tells whether it was taken within the inrush window. -/
def State.stepSample (s : State) (sample : Nat) (inrush : Bool) : State :=
  if s.motionParams.stepJamCurrent < sample ∧ inrush = false then
    let run := s.step.jamRun + 1
    if s.motionParams.stepJamTime * 10 ≤ run then (s.setStep { s.step with jamRun := 0 }).stepJam
    else s.setStep { s.step with jamRun := run }
  else s.setStep { s.step with jamRun := 0 }

/-- The jam retry expires: DRIVE_IN, with the retry marked USED (R162). -/
def State.stepRetry (s : State) : State :=
  (s.setStep { s.step with jamRetry := .used, retryTimer := none }).stepDrive .inward

end Sys2Proof.Machine
end

