-- ==== Sys2Proof/Machine/AwningMachine.lean ====
section
/-! DEFINITION. The awning (9.4) and the wind (9.5): demands, drives, pulses, the in-switch, stalls, timeouts and the wind hold. -/

namespace Sys2Proof.Machine

open Sys2Proof

/-- The target count of a POSITION value (R163). -/
def targetCount (pmax p : Nat) : Nat := (pmax * p + 50) / 100

/-- The awning's state with the operation, its target and its timing gone (R156, R157). The stall retry mark, USED included, becomes NONE with
the operation, as R159 says of the step's jam retry (DEDUCED, log entry 12). -/
def AwningControl.idle (m : AwningControl) : AwningControl :=
  { m with operation := none, target := none, stallRetry := .none, stallTimer := none, travelTimer := none, retryTimer := none }

/-- The awning's operation ends with a result (R157). -/
def State.awningFinish (s : State) (r : Reason) : State :=
  let t := match s.awning.operation with
    | some o => s.finishEntry .awning o.entry r
    | none => s
  (t.setAwning t.awning.idle).setOwed true

/-- The machine is resolved: RETRACTED while its in-switch is active, OUT otherwise (R158). -/
def State.awningResolve (s : State) : State :=
  s.setAwning { s.awning with state := if s.switches.awningIn then .retracted else .out }

/-- The awning is set to a state. -/
def State.awningTo (s : State) (st : AwningState) : State := s.setAwning { s.awning with state := st }

/-- The awning heads for a target. -/
def State.awningAim (s : State) (t : AwningTarget) : State := s.setAwning { s.awning with target := some t }

/-- The controller commands STOP; both timers stop with the drive (R158, R166). -/
def State.awningStop (s : State) : State :=
  (s.setChannel 15 (s.channel 15).stopCommand).setAwning { s.awning with stallTimer := none, travelTimer := none }

/-- STOP, resolved, and the entry DONE with reason COMPLETE. -/
def State.awningArrive (s : State) : State := s.awningStop.awningResolve.awningFinish .complete

/-- The count compared with the target while the bridge drives (R165). -/
def State.awningCompare (s : State) : State :=
  match (s.channel 15).state, s.awning.target with
  | .driveOut, some (.count t) => if t ≤ s.awning.count then s.awningArrive else s
  | .driveIn, some (.count t) => if s.awning.count ≤ t then s.awningArrive else s
  | _, _ => s

/-- The bank reports a drive start toward `d` (R158, R163, R165, R166). -/
def State.awningStarted (s : State) (d : Direction) : State :=
  (s.setAwning
    { s.awning with
      state := if d = .outward then .extending else .retracting
      lastDrive := d
      stallTimer := some (s.motionParams.stallInterval * 100)
      travelTimer := some (s.motionParams.awningTravelTimeout * 1000) }).awningCompare

/-- The controller commands a drive toward `d` (R158). -/
def State.awningDrive (s : State) (d : Direction) : State :=
  let x := s.channel 15
  if x.barred then
    let t := s.awningResolve
    t.setAwning t.awning.idle
  else
    let y := x.driveCommand d
    let t := s.setChannel 15 y
    if x.state = driveState d then t
    else if y.state = .dead then t.setAwning { t.awning with state := .reversing, stallTimer := none, travelTimer := none }
    else t.awningStarted d

/-- JAMMED or FAULT is cleared by a STOP demand: resolved, with the count kept (R164). -/
def State.awningClear (s : State) : State := (s.awningResolve.awningFinish .complete).postMotion .awning .cleared

/-- A POSITION demand with target count `t` from a stopped awning, or as a pending direction (R164). -/
def State.awningSeek (s : State) (t : Nat) : State :=
  if t = s.awning.count then s.awningArrive
  else if s.awning.count < t then (s.awningAim (.count t)).awningDrive .outward
  else (s.awningAim (.count t)).awningDrive .inward

/-- A demand of the awning carried out from its present state (table of R164). -/
def State.awningCarry (s : State) (v : MotionValue) : State :=
  let pmax := s.motionParams.pmax
  match s.awning.state with
  | .retracted =>
    match v with
    | .extend => (s.awningAim (.count pmax)).awningDrive .outward
    | .position p =>
      if targetCount pmax p = 0 then s.awningFinish .complete
      else (s.awningAim (.count (targetCount pmax p))).awningDrive .outward
    | .retract | .stop => s.awningFinish .complete
  | .out =>
    match v with
    | .extend => if s.awning.count = pmax then s.awningFinish .complete else (s.awningAim (.count pmax)).awningDrive .outward
    | .position p =>
      if targetCount pmax p = s.awning.count then s.awningFinish .complete else s.awningSeek (targetCount pmax p)
    | .retract => (s.awningAim .home).awningDrive .inward
    | .stop => s.awningFinish .complete
  | .extending =>
    match v with
    | .extend => s.awningAim (.count pmax)
    | .position p => s.awningSeek (targetCount pmax p)
    | .retract => (s.awningAim .home).awningDrive .inward
    | .stop => s.awningArrive
  | .retracting =>
    match v with
    | .extend => (s.awningAim (.count pmax)).awningDrive .outward
    | .position p =>
      if targetCount pmax p < s.awning.count then s.awningAim (.count (targetCount pmax p))
      else s.awningSeek (targetCount pmax p)
    | .retract => s.awningAim .home
    | .stop => s.awningArrive
  | .reversing =>
    match v with
    | .extend => (s.awningAim (.count pmax)).awningDrive .outward
    | .position p => s.awningSeek (targetCount pmax p)
    | .retract => (s.awningAim .home).awningDrive .inward
    | .stop => s.awningArrive
  | .jammed =>
    match v with
    | .stop => s.awningClear
    | .extend | .retract | .position _ => s.awningFinish .jammed
  | .fault =>
    match v with
    | .stop => s.awningClear
    | .extend | .retract | .position _ => s.awningFinish .fault

/-- A demand that heads inward from the present count: RETRACT, or a POSITION below it (R164). -/
def State.awningInward (s : State) : MotionValue → Bool
  | .retract => true
  | .position p => targetCount s.motionParams.pmax p < s.awning.count
  | .extend | .stop => false

/-- The operation becomes that of a new demand (R156). A stall retry is kept by an inward demand and dropped by any other
(R164); the mark USED likewise (DEDUCED from R159, log entry 12). -/
def State.awningAccept (s : State) (o : Operation) : State :=
  let keep := s.awningInward o.value
  s.setAwning
    { s.awning with
      operation := some o
      stallRetry := if keep then s.awning.stallRetry else .none
      retryTimer := if keep then s.awning.retryTimer else none }

/-- The bridge has lost its grant (R156). -/
def State.awningLoss (s : State) : State :=
  let t := if s.awning.inOperation then s.awningStop.awningResolve else s
  t.setAwning t.awning.idle

/-- The allocator hands the awning its grant or no grant (R156). -/
def State.awningHand (s : State) (g : Option Operation) : State :=
  match g with
  | none => if s.awning.operation.isSome ∨ s.awning.inOperation then s.awningLoss else s
  | some o => if s.awning.operation = some o then s else (s.awningAccept o).awningCarry o.value

/-- The bank reports a trip or lockout of the driving awning bridge (R158). -/
def State.awningTripped (s : State) : State :=
  let t := s.awningResolve
  if s.awning.stallRetry = .used then t.awningFinish .jammed else t.setAwning t.awning.idle

/-- The direction in which a pulse counts: that of the drive, or of the last drive while the awning coasts (R163). -/
def State.pulseDirection (s : State) : Direction :=
  match (s.channel 15).state with
  | .driveOut => .outward
  | .driveIn => .inward
  | .off | .on | .ramping | .lit | .stopped | .dead | .tripped | .lockedOut => s.awning.lastDrive

/-- The position count after a pulse, within 0..Pmax (R163). -/
def countAfter (pmax n : Nat) : Direction → Nat
  | .outward => min pmax (n + 1)
  | .inward => min pmax (n - 1)
  | .none => n

/-- A hall pulse: the count moves, the stall timer of a drive is loaded again, and the count is compared with the target
(R163, R165, R166). -/
def State.awningPulse (s : State) : State :=
  let n := countAfter s.motionParams.pmax s.awning.count s.pulseDirection
  let driving := (s.channel 15).energised
  (s.setAwning
    { s.awning with
      count := n
      stallTimer := if driving then some (s.motionParams.stallInterval * 100) else s.awning.stallTimer }).awningCompare

/-- The in-switch of the awning becomes active, its level already taken (R165). While the awning is REVERSING toward the far end the rule names
no state to follow: the count and the last drift are written, and the state and the pending direction stay (DESIGN CHOICE, log entry 38). -/
def State.awningActivated (s : State) : State :=
  let n := s.awning.count
  let inward := (s.awning.state = .reversing ∧ (s.channel 15).pendingDir = .inward) ∨ s.awning.state = .retracting
  let t := s.setAwning { s.awning with lastDrift := n, count := 0 }
  let t :=
    if inward then (t.awningStop.awningTo .retracted).awningFinish .complete
    else if t.awning.state = .out ∧ t.awning.operation.isNone then t.awningTo .retracted
    else t
  if s.motionParams.syncSlack < n then t.postMotion .awning .drift else t

/-- The in-switch of the awning becomes inactive (R165). -/
def State.awningDeactivated (s : State) : State :=
  if s.awning.state = .retracted ∧ s.awning.operation.isNone then s.awningTo .out else s

/-- The stall timer expires (R166). -/
def State.awningStall (s : State) : State :=
  let t := s.awningStop
  match s.awning.state with
  | .extending => ((t.awningTo .out).awningFinish .jammed).postMotion .awning .stall
  | .retracting =>
    if s.awning.stallRetry = .used then ((t.awningTo .jammed).awningFinish .jammed).postMotion .awning .jammed
    else
      (t.setAwning { t.awning with stallRetry := .pending, retryTimer := some Config.retryMs }).postMotion .awning .stall
  | .retracted | .out | .reversing | .jammed | .fault => t

/-- The travel timer expires (R166). -/
def State.awningTimeout (s : State) : State :=
  let t := s.awningStop
  match s.awning.state with
  | .extending => ((t.awningTo .out).awningFinish .timeout).postMotion .awning .timeout
  | .retracting => ((t.awningTo .fault).awningFinish .fault).postMotion .awning .fault
  | .retracted | .out | .reversing | .jammed | .fault => t

/-- The stall retry expires: DRIVE_IN, with the retry marked USED (R166). -/
def State.awningRetry (s : State) : State :=
  (s.setAwning { s.awning with stallRetry := .used, retryTimer := none }).awningDrive .inward

/-! ### Forced retracts -/

/-- The fields of a forced retract on a bridge (table of 6.1.2). -/
def forcedRetract (b : Bridge) : EntryFields :=
  { freeFields with channel := bridgeChannel b, demand := .motion .retract, cls := 0, arm := .armed }

/-- Entry 2 is armed if the step is not RETRACTED (R169). -/
def State.armStep (s : State) : State :=
  if s.step.state = .retracted then s else (s.armEntry 2 (forcedRetract .step)).setOwed true

/-- Entry 3 is armed if the awning is not RETRACTED (R168, R169). -/
def State.armAwning (s : State) : State :=
  if s.awning.state = .retracted then s else (s.armEntry 3 (forcedRetract .awning)).setOwed true

/-- The force of R168: entry 3 is armed when the awning is not RETRACTED and the mode is not SETUP. -/
def State.windForce (s : State) : State := if s.mode = .setup then s else s.armAwning

/-- A wind reading of value `v` at the designated record, bound with kind WIND (R167). -/
def State.windReading (s : State) (v : Int) : State :=
  let p := s.motionParams
  let run := if (p.windLimit : Int) ≤ v then satInc 10 s.wind.runCount else 0
  let calls := (p.gustLimit : Int) ≤ v ∨ p.windCount ≤ run
  let reload := some (p.windHoldTime * Config.minuteMs)
  if calls then
    let t := s.setWind { runCount := run, holdTimer := reload }
    let t := if s.windHold then t else t.postMotion .awning .windHold
    t.windForce
  else if s.windHold ∧ (p.windLimit : Int) ≤ v then s.setWind { runCount := run, holdTimer := reload }
  else s.setWind { s.wind with runCount := run }

/-- The designated WIND record becomes STALE: the run count becomes 0 and the force is applied (R167, R168). -/
def State.windStale (s : State) : State := (s.setWind { s.wind with runCount := 0 }).windForce

/-- The hold timer expires (R167). -/
def State.windClear (s : State) : State := (s.setWind { s.wind with holdTimer := none }).postMotion .awning .windClear

end Sys2Proof.Machine
end

