-- ==== Sys2Proof/Machine/Allocator.lean ====
section
/-! DEFINITION. The grant allocator (Chapter 6): the budget, channel arbitration and the steady re-evaluation, with the hand-over of
its results to the output channel bank and the motion controller. -/

namespace Sys2Proof.Machine

open Sys2Proof

/-! ### The budget (6.3) -/

/-- S: the sum of the values of the FRESH records of kind HEADROOM (R106). -/
def State.sourceSum (s : State) : Nat :=
  (indexes 24).foldl
    (fun n k => if (s.measRec k).desc.kind = .headroom ∧ (s.measRec k).freshness = .fresh then n + (s.measRec k).value.toNat else n)
    0

/-- The allowance of a tier (R106). -/
def BatteryParams.allowance (p : BatteryParams) : Tier → Nat
  | .normal => p.allowNormal
  | .conserve => p.allowConserve
  | .essential => p.allowEssential
  | .protect => p.allowProtect

/-- A: the allowance of the present tier, and no more than A_ESSENTIAL while hold is set (R106). -/
def State.allowance (s : State) : Nat :=
  if s.account.hold then min (s.battery.allowance s.account.tier) s.battery.allowEssential else s.battery.allowance s.account.tier

/-- S, A and B are computed and written into record 113 (R106). -/
def State.recomputeBudget (s : State) : State :=
  s.setBudget
    { s.budget with
      sourceSum := s.sourceSum
      allowance := s.allowance
      budget := min s.battery.busLimit (s.sourceSum + s.allowance) }

/-! ### Needs (6.4) -/

/-- The need of a demand on a channel at the level tried (R108). -/
def needAt (d : ChannelDescriptor) (demand : Demand) : Nat :=
  match demand with
  | .none => 0
  | .level l => if d.kind = .dimmer then ceilDiv (d.nominal * l) 100 else if l = 0 ∧ d.kind ≠ .heavy then 0 else d.nominal
  | .setpoint _ => d.nominal
  | .motion .stop => 0
  | .motion .extend | .motion .retract | .motion (.position _) => d.nominal

/-- The descriptor of the channel that entry `i` targets. -/
def State.descOf (s : State) (i : Fin 48) : ChannelDescriptor := (s.channel (s.entry i).fields.channel).desc

/-- The state of the channel that entry `i` targets. -/
def State.chanState (s : State) (i : Fin 48) : ChannelState := (s.channel (s.entry i).fields.channel).state

/-- The need of entry `i` at its own level (R108). -/
def State.need (s : State) (i : Fin 48) : Nat := needAt (s.descOf i) (s.entry i).fields.demand

/-- R: the nominal current of the frost heater channel while entry 0 is not FREE (R110). -/
def State.frostReserve (s : State) : Nat :=
  if (s.entry 0).state = .free then 0
  else
    match s.frostParams.heater with
    | some c => (s.channel c).desc.nominal
    | none => 0

/-! ### Blocking (R115, R116) -/

/-- The pump channel is interlocked (R116). -/
def State.pumpInterlock (s : State) : Bool :=
  s.frost.state = .dumping || s.frost.state = .drained || s.seenLevel s.frostParams.fresh ≤ s.frostParams.dryLevel
    || s.frostParams.greyFull ≤ s.seenLevel s.frostParams.grey

/-- The fresh level record is STALE or NEVER (R116). -/
def State.freshUnsure (s : State) : Bool := s.seenFreshness s.frostParams.fresh .level ≠ .fresh

/-- The frost state holds the dump valve closed: IDLE, WATCH or HEATING (R116). -/
def FrostState.holdsValve : FrostState → Bool
  | .idle | .watch | .heating => true
  | .off | .dumping | .drained => false

/-- A demand that would energise the channel: a LEVEL above 0, and a SETPOINT counts as one (R116, R179). -/
def Demand.drawsOnValve : Demand → Bool
  | .level l => 0 < l
  | .setpoint _ => true
  | .none | .motion _ => false

/-- Channel `c` is the dump valve channel and the frost state does not hold the valve closed: by the law of R179 it is not energised. -/
def State.valveOpen (s : State) (c : Fin 16) : Bool := s.frostParams.valve = some c && s.frost.state.holdsValve = false

/-- The motion controller's verdict blocks the entry (R168, R169). -/
def State.motionBlocks (s : State) (e : EntryFields) : Bool :=
  match e.demand with
  | .motion .extend => if e.channel = 14 then s.stepBlocked else s.awningBlocked
  | .motion (.position _) => e.channel = 15 && s.awningBlocked
  | .motion .retract | .motion .stop | .none | .level _ | .setpoint _ => false

/-- The blocking condition that holds for entry `i`, MODE before INTERLOCK before SENSOR (R115, R116). -/
def State.blocking (s : State) (i : Fin 48) : Option Reason :=
  let e := s.entry i
  let pump := s.frostParams.pump = some e.fields.channel
  if s.mode = .storage ∧ isClient i ∧ 2 ≤ e.fields.cls.1 then some .mode
  else if (s.descOf i).kind.suits e.fields.demand = false then some .interlock
  else if s.motionBlocks e.fields then some .interlock
  else if pump ∧ s.pumpInterlock then some .interlock
  else if i ≠ 1 ∧ s.valveOpen e.fields.channel ∧ e.fields.demand.drawsOnValve then some .interlock
  else if pump ∧ s.freshUnsure then some .sensor
  else none

/-! ### Arbitration (R111) -/

/-- A steady channel: SWITCH, DIMMER, VALVE or a bridge (R111). -/
def ChannelKind.steady : ChannelKind → Bool
  | .switch | .dimmer | .valve | .bridge => true
  | .unused | .heavy => false

/-- Entry `i` is a candidate for channel `c` (R111). -/
def State.candidate (s : State) (c : Fin 16) (i : Fin 48) : Bool :=
  (s.entry i).state.isCandidate && (s.entry i).fields.channel = c

/-- Entry `j` has precedence over entry `i`: the lower class, and in one class the lower number (R111). -/
def State.precedes (s : State) (j i : Fin 48) : Bool :=
  (s.entry j).fields.cls < (s.entry i).fields.cls || ((s.entry j).fields.cls = (s.entry i).fields.cls && j < i)

/-- Entry `i` is the winner of the steady channel it targets (R111). -/
def State.wins (s : State) (i : Fin 48) : Bool :=
  let c := (s.entry i).fields.channel
  (s.channel c).desc.kind.steady && s.candidate c i
    && (indexes 48).all fun j => !(s.candidate c j && s.precedes j i)

/-- A winner is exempt (R109). -/
def State.exempt (s : State) (i : Fin 48) : Bool :=
  let e := s.entry i
  i = 1 || i = 2 || i = 3
    || match e.fields.demand with
      | .motion .retract | .motion .stop => true
      | .motion .extend | .motion (.position _) =>
        e.state = .granted && (if e.fields.channel = 14 then s.stepDrivingIn else s.awningDrivingIn)
      | .none | .level _ | .setpoint _ => false

/-- A winner that is not exempt is protected: a MOTION entry GRANTED before this re-evaluation whose bridge is in an operation
(R114). -/
def State.protectedGrant (s : State) (i : Fin 48) : Bool :=
  let e := s.entry i
  match e.fields.demand with
  | .motion _ => e.state = .granted && (if e.fields.channel = 14 then s.step.inOperation else s.awning.inOperation)
  | .none | .level _ | .setpoint _ => false

/-- Entries in order of class, then entry number, from a list in ascending order. -/
def State.byClass (s : State) (l : List (Fin 48)) : List (Fin 48) :=
  [0, 1, 2, 3].flatMap fun cls => l.filter fun i => (s.entry i).fields.cls = cls

/-! ### The verdict of one winner -/

/-- What a re-evaluation makes of a winner: its standing, its granted level, and what it adds to the running total. -/
structure Verdict where
  state : EntryState
  reason : Reason
  level : Option Nat
  adds : Nat
  deriving DecidableEq, Repr

/-- A winner that is not granted. -/
def notGranted (st : EntryState) (r : Reason) : Verdict := { state := st, reason := r, level := none, adds := 0 }

/-- The granted level is kept for LEVEL entries on DIMMER channels (6.1.1). -/
def State.dimmerLevel (s : State) (i : Fin 48) : Option Nat :=
  match (s.entry i).fields.demand with
  | .level l => if (s.descOf i).kind = .dimmer then some l else none
  | .none | .setpoint _ | .motion _ => none

/-- An exempt winner: GRANTED, unless its channel is TRIPPED or LOCKED_OUT (R113). -/
def State.exemptVerdict (s : State) (i : Fin 48) : Verdict :=
  match s.chanState i with
  | .tripped => notGranted .waiting .tripped
  | .lockedOut => notGranted .shed .lockedOut
  | .off | .on | .ramping | .lit | .stopped | .driveOut | .driveIn | .dead =>
    { state := .granted, reason := .none, level := s.dimmerLevel i, adds := s.need i }

/-- The level to be tried for a LEVEL entry on a dimmer: in CONSERVE a class 2 entry is tried at no more than 50 % (R117). -/
def State.triedLevel (s : State) (i : Fin 48) (l : Nat) : Nat :=
  if s.account.tier = .conserve ∧ (s.entry i).fields.cls = 2 then min l 50 else l

/-- The levels that a dimmer is tried at in turn after level `l`: 10, 20, 30 and so on below it, down to 10 (R119). -/
def degradedLevels (l : Nat) : List Nat := ((List.range (l / 10)).map fun k => l - 10 * (k + 1)).filter (10 ≤ ·)

/-- The check of fit: `room` is what the steady budget leaves above the running total (R119). -/
def State.fitVerdict (s : State) (i : Fin 48) (room : Nat) : Verdict :=
  let d := s.descOf i
  match (s.entry i).fields.demand, d.kind with
  | .level l, .dimmer =>
    let tried := s.triedLevel i l
    if needAt d (.level tried) ≤ room then
      { state := .granted, reason := if tried < l then .tier else .none, level := some tried, adds := needAt d (.level tried) }
    else
      match (degradedLevels tried).find? fun k => needAt d (.level k) ≤ room with
      | some k => { state := .granted, reason := .degraded, level := some k, adds := needAt d (.level k) }
      | none => notGranted .shed .noBudget
  | _, _ =>
    if s.need i ≤ room then { state := .granted, reason := .none, level := none, adds := s.need i }
    else notGranted .shed .noBudget

/-- The checks of R114 to R120 on a winner that is not exempt. A protected one passes the tier (R114). `short` tells that the exempt
sum is above the budget, so that none is granted (R120). -/
def State.winnerVerdict (s : State) (i : Fin 48) (shielded short : Bool) (room : Nat) : Verdict :=
  match s.blocking i with
  | some r => notGranted .blocked r
  | none =>
    if shielded = false ∧ s.account.tier.sheds (s.entry i).fields.cls then notGranted .shed .tier
    else
      match s.chanState i with
      | .tripped => notGranted .waiting .tripped
      | .lockedOut => notGranted .shed .lockedOut
      | .off | .on | .ramping | .lit | .stopped | .driveOut | .driveIn | .dead =>
        if short then notGranted .shed .noBudget else s.fitVerdict i room

/-- The verdict written into its entry. -/
def State.award (s : State) (i : Fin 48) (v : Verdict) : State :=
  s.setEntry i { (s.entry i).stand v.state v.reason with grantedLevel := v.level }

/-- One winner in the budget order: judged on the state `s` before the re-evaluation, with the running total so far. -/
def State.takeWinner (s : State) (shielded short : Bool) (steady : Nat) (acc : Nat × State) (i : Fin 48) : Nat × State :=
  let v := s.winnerVerdict i shielded short (steady - acc.1)
  (acc.1 + v.adds, acc.2.award i v)

/-! ### The re-evaluation (R112 to R123) -/

/-- Every candidate of a steady channel other than its winner becomes SUPERSEDED (R111). -/
def State.supersede (s : State) : State :=
  forEach
    (fun i t =>
      if s.candidate (s.entry i).fields.channel i && (s.descOf i).kind.steady && !s.wins i then t.stand i .superseded .none else t)
    s

/-- The steady winners settled: exempt (R113), protected (R114), and the rest in order of class and entry number (R115 to R120),
with E, R, the steady budget, the steady total and the heavy headroom written (R110, R121). -/
def State.settleSteady (s : State) : State :=
  let winners := (indexes 48).filter fun i => s.wins i
  let exempt := winners.filter fun i => s.exempt i
  let shielded := s.byClass (winners.filter fun i => !s.exempt i && s.protectedGrant i)
  let rest := s.byClass (winners.filter fun i => !s.exempt i && !s.protectedGrant i)
  let afterExempt := exempt.foldl (fun (acc : Nat × State) i => (acc.1 + (s.exemptVerdict i).adds, acc.2.award i (s.exemptVerdict i)))
    (0, s.supersede)
  let e := afterExempt.1
  let b := s.budget.budget
  let r := s.frostReserve
  let steady := b - e - r
  let short : Bool := b < e
  let afterShielded := shielded.foldl (s.takeWinner true short steady) (0, afterExempt.2)
  let afterRest := rest.foldl (s.takeWinner false short steady) afterShielded
  let t := afterRest.2
  t.setBudget
    { t.budget with
      exemptSum := e
      reserve := r
      steadyBudget := steady
      steadyTotal := afterRest.1
      headroom := (b : Int) - e - afterRest.1 }

/-- A run in progress that the heavy headroom no longer holds is cut (R121, R135). -/
def State.cutShortRun (s : State) : State :=
  match s.budget.run with
  | some r => if s.budget.headroom < r.need then s.endRunAs .waiting .noHeadroom else s
  | none => s

/-- One entry that targets a HEAVY channel is checked for blocking (R122). One that stands GRANTED without holding the present run,
or SUPERSEDED, as a commit or a descriptor that made its channel HEAVY may leave it, becomes WAITING (R111; log entry 9). An
entry that targets an UNUSED channel is blocked (R115). An entry that its owner has recommitted at LEVEL 0 keeps its run (R136) and is not
blocked on the dump valve channel (R116); its run ends there all the same, with the entry WAITING, once the valve is not held closed: the law of
R179, in a way that is the model's (DESIGN CHOICE, log entry 41). -/
def State.checkHeavy (i : Fin 48) (s : State) : State :=
  let e := s.entry i
  if e.state.isCandidate = false then s
  else
    match (s.descOf i).kind with
    | .heavy =>
      match s.blocking i with
      | some r => (s.dropRunOf i).stand i .blocked r
      | none =>
        if s.holdsRun i ∧ s.valveOpen e.fields.channel then s.endRunAs .waiting .none
        else if e.state = .blocked ∨ e.state = .superseded ∨ (e.state = .granted ∧ s.holdsRun i = false) then s.stand i .waiting .none
        else s
    | .unused => s.stand i .blocked ((s.blocking i).getD .interlock)
    | .switch | .dimmer | .valve | .bridge => s

/-- The entry GRANTED for channel `c`. -/
def State.grantOn (s : State) (c : Fin 16) : Option (Fin 48) :=
  (indexes 48).find? fun i => (s.entry i).state = .granted && (s.entry i).fields.channel = c

/-- The level handed to the bank with the grant of entry `i`: the granted level of a dimmer, the level asked of any other. -/
def State.handedLevel (s : State) (i : Fin 48) : Nat :=
  match (s.entry i).grantedLevel with
  | some l => l
  | none =>
    match (s.entry i).fields.demand with
    | .level l => l
    | .none | .setpoint _ | .motion _ => 0

/-- One channel's row of record 113 and its grant are handed on (R123): a steady channel takes the entry granted and its level, or no
grant; the row of an UNUSED channel holds none; a HEAVY channel is left to the slot scheduler. The level in force of a row
is the target of a dimmer, 100 for a channel switched on and 0 otherwise (R184). -/
def State.handChannel (c : Fin 16) (s : State) : State :=
  let g := s.grantOn c
  let level := g.map s.handedLevel
  let x := s.channel c
  let row := s.row c
  match x.desc.kind with
  | .switch | .valve =>
    (s.setRow c { row with entry := g, level := if level.any (0 < ·) then 100 else 0 }).setChannel c (x.grantSwitch level)
  | .dimmer => (s.setRow c { row with entry := g, level := level.getD 0 }).setChannel c (x.grantDimmer level)
  | .bridge => s.setRow c { row with entry := g, level := 0 }
  | .unused => s.setRow c { row with entry := none, level := 0 }
  | .heavy => s

/-- One steady re-evaluation up to its hand-over to the motion controller (R112 to R123). -/
def State.allocate (s : State) : State :=
  let t := s.settleSteady.cutShortRun
  let t := forEach State.checkHeavy t
  let t := forEach State.handChannel t
  t.setBudget { t.budget with evaluations := wrapInc 65535 t.budget.evaluations }

/-- The grant on a bridge as the motion controller is handed it (R123, R156). -/
def State.grantedOperation (s : State) (b : Bridge) : Option Operation :=
  match s.grantOn (bridgeChannel b) with
  | some i => (s.entry i).fields.demand.motionValue.map fun v => { entry := i, value := v }
  | none => none

/-- The grants of both bridges handed to the motion controller (R123). A change of its reports calls for a further re-evaluation
within the same event (R157). The step is handed its grant before the awning, so that a MOTION notice of 110 stands before one of 111 of the
same hand-over (DESIGN CHOICE, log entry 40). -/
def State.handMotion (s : State) : State :=
  let t := (s.stepHand (s.grantedOperation .step)).awningHand (s.grantedOperation .awning)
  if t.reports = s.reports then t else t.setOwed true

/-- Re-evaluations are made while the allocator is informed of a change, at most `n` of them. -/
def settle : Nat → State → State
  | 0, s => s
  | n + 1, s => if s.owed then settle n (s.setOwed false).allocate.handMotion else s

/-- A READINESS notice at a change of the verdict from `before` (R170). -/
def State.noticeReadiness (s : State) (before : Bool) : State :=
  if s.ready = before then s else s.postAll { kind := .readiness, subject := 117, value := flagCode s.ready }

/-- The grant allocator makes its steady re-evaluation, with every further one that its hand-over calls for, and then posts the ENTRY
notices of every change of an entry since `base` (R105), followed by a READINESS notice if the verdict changed (9.9.2). -/
def State.reevaluateFrom (s : State) (base : Vector Entry 48) (freedReason : Reason) : State :=
  (noticeEntries base freedReason (settle Config.settlePasses (s.setOwed true))).noticeReadiness s.ready

/-- A steady re-evaluation whose event has changed no client entry before it (R112). -/
def State.reevaluate (s : State) : State := s.reevaluateFrom s.entries .none

/-- A steady re-evaluation with the budget recomputed first (R107, R112). -/
def State.rebudget (s : State) : State := s.recomputeBudget.reevaluate

/-- What the motion controller does at an event, with its MOTION notices, the ENTRY notices of the client entries it changed and a
READINESS notice if the verdict changed, before the grant allocator is informed (R105, R170, R171). -/
def motionWork (f : State → State) (s : State) : State := (noticeEntries s.entries .none (f s)).noticeReadiness s.ready

/-- The motion controller informs the allocator, where an operation ended, an entry was armed, a report or verdict changed from that of `s`,
or the wind changed between KNOWN and UNKNOWN (R157, R168, R169). -/
def State.informsAllocator (s t : State) : Bool :=
  t.owed || t.reports ≠ s.reports || t.verdicts ≠ s.verdicts || s.windKnown.turns t.windKnown

/-- An event of the motion controller, with the steady re-evaluation that it calls for. -/
def motionEvent (f : State → State) (s : State) : State :=
  let t := motionWork f s
  if s.informsAllocator t then t.reevaluate else t

end Sys2Proof.Machine
end

