-- ==== Sys2Proof/Machine/Calling.lean ====
section
/-! DEFINITION. Thermostat calling (7.3). -/

namespace Sys2Proof.Machine

open Sys2Proof

/-- Calling judged from a temperature record: true below setpoint − 5, false at or above setpoint + 5, kept between; false whatever
the value unless the record is FRESH (R128). -/
def callingOf (seen : Freshness) (value setpoint : Int) (previous : Bool) : Bool :=
  if seen ≠ .fresh then false
  else if value < setpoint - 5 then true
  else if setpoint + 5 ≤ value then false
  else previous

/-- The temperature record of an entry: the tank record for entry 0, the cabin record for a client entry (R128). -/
def State.thermostat (s : State) (i : Fin 48) : Option (Fin 24) :=
  if i = 0 then s.frostParams.tank else if isClient i then s.sched.cabin else none

/-- The calling of entry `i` judged afresh from `previous` at its commit or arming: for a SETPOINT entry on a HEAVY channel that is not FREE
(R129). Any other entry that is not FREE has no calling (log entry 10). -/
def State.judgeCalling (s : State) (i : Fin 48) (previous : Bool) : State :=
  let e := s.entry i
  if e.state = .free then s
  else
    let calls := match e.fields.demand with
      | .setpoint t =>
        (s.descOf i).kind = .heavy
          && callingOf (s.seenFreshness (s.thermostat i) .temperature) (s.seenValue (s.thermostat i) .temperature) t previous
      | .none | .level _ | .motion _ => false
    s.setEntry i { e with calling := calls }

/-- The calling of entry `i` judged afresh from its own where its record or designation changes: for a SETPOINT entry on a HEAVY channel
that is not FREE, and for no other (R129). -/
def State.rejudge (i : Fin 48) (s : State) : State :=
  match (s.entry i).fields.demand with
  | .setpoint _ => if (s.descOf i).kind = .heavy then s.judgeCalling i (s.entry i).calling else s
  | .none | .level _ | .motion _ => s

/-- The calling of every client entry judged afresh (R124, R129). -/
def State.judgeCabin (s : State) : State := forEach (fun i t => if isClient i then t.rejudge i else t) s

/-- The calling of entry 0 judged afresh (R129). -/
def State.judgeTank (s : State) : State := s.rejudge 0

end Sys2Proof.Machine
end

