-- ==== Sys2Proof/Machine/Frost.lean ====
section
/-! DEFINITION. The frost controller (Chapter 10): its inputs, the judgement of R176, the heater, the dump valve and the drain. -/

namespace Sys2Proof.Machine

open Sys2Proof

/-! ### Reading the probes (R174) -/

/-- The tank temperature while the tank is known. -/
def State.tank (s : State) : Option Int :=
  if s.seenFreshness s.frostParams.tank .temperature = .fresh then some (s.seenValue s.frostParams.tank .temperature) else none

/-- The outside is cold: at or below the watch temperature by its last value, or never read. -/
def State.outsideCold (s : State) : Bool :=
  s.seenFreshness s.frostParams.outside .temperature = .never
    || s.seenValue s.frostParams.outside .temperature ≤ s.frostParams.watchTemp

/-- The outside is warm: read, with a value above the watch temperature plus 10. -/
def State.outsideWarm (s : State) : Bool :=
  s.seenFreshness s.frostParams.outside .temperature ≠ .never
    && s.frostParams.watchTemp + 10 < s.seenValue s.frostParams.outside .temperature

/-- The fresh tank is dry. -/
def State.freshDry (s : State) : Bool :=
  s.seenFreshness s.frostParams.fresh .level = .fresh && s.seenLevel s.frostParams.fresh ≤ s.frostParams.dryLevel

/-! ### Entries 0 and 1 (R177, R179) -/

/-- The fields of the frost heater entry on channel `c` (table of 6.1.2, R177). -/
def heaterFields (p : FrostParams) (c : Fin 16) : EntryFields :=
  { channel := c, demand := .setpoint p.holdTemp, cls := 0, persistence := .standing, holdTime := 0
    slotFirst := p.slotFirst, slotSpan := p.slotSpan, repetition := 1, base := 0, arm := .armed }

/-- The fields of the dump-valve hold on channel `c` (table of 6.1.2, R179). -/
def valveFields (c : Fin 16) : EntryFields :=
  { freeFields with channel := c, demand := .level 100, cls := 0, persistence := .standing, arm := .armed }

/-- Entry 0 is armed on the heater channel, where there is one (R177), and its calling is judged, with a previous value of false if
it was FREE (R129). -/
def State.armHeater (s : State) : State :=
  match s.frostParams.heater with
  | none => s
  | some c =>
    let previous := (s.entry 0).state ≠ .free && (s.entry 0).calling
    (s.armEntry 0 (heaterFields s.frostParams c)).judgeCalling 0 previous

/-- Entry 0 is freed, if it is not FREE. -/
def State.freeHeater (s : State) : State := if (s.entry 0).state = .free then s else s.freeEntry 0

/-- Entry 1 is armed on the dump valve channel, where there is one (R179). -/
def State.armValve (s : State) : State :=
  match s.frostParams.valve with
  | none => s
  | some c => s.armEntry 1 (valveFields c)

/-- Entry 1 is freed, if it is not FREE. -/
def State.freeValve (s : State) : State := if (s.entry 1).state = .free then s else s.freeEntry 1

/-! ### The judgement (R176) -/

/-- A change into DUMPING (R178): entries 1 and 0 freed, the cause written and the drain timer started. -/
def State.dump (s : State) (cause : DumpCause) : State :=
  let t := s.freeValve.freeHeater
  t.setFrost
    { t.frost with state := .dumping, cause := cause, drainTimer := some (s.frostParams.drainTime * Config.minuteMs) }

/-- The frost state is set. -/
def State.frostTo (s : State) (st : FrostState) : State := s.setFrost { s.frost with state := st }

/-- The first row of the table of R176 that applies to the present state, or none. `lost` tells that the dump valve channel has become
LOCKED_OUT at this event. -/
def State.frostRow (s : State) (lost : Bool) : Option State :=
  let p := s.frostParams
  let low (limit : Int) : Bool := s.tank.any (· ≤ limit)
  let high (limit : Int) : Bool := s.tank.any (limit < ·)
  let guarded : Bool := s.frost.state = .watch || s.frost.state = .heating
  if guarded ∧ low (p.dumpTemp - 10) then some (s.dump .lastResort)
  else if guarded ∧ low p.dumpTemp ∧ s.frost.heater.unavailable then some (s.dump .noHeater)
  else if guarded ∧ s.tank = none ∧ s.outsideCold then some (s.dump .noProbe)
  else if s.frost.state.holdsValve ∧ lost then some (s.dump .valveLost)
  else
    match s.frost.state with
    | .idle => if s.outsideCold ∨ low p.holdTemp then some (s.frostTo .watch) else none
    | .watch =>
      if low p.holdTemp then some (s.armHeater.frostTo .heating)
      else if s.outsideWarm ∧ high (p.holdTemp + 10) then some (s.frostTo .idle)
      else none
    | .heating => if s.outsideWarm ∧ high (p.holdTemp + 10) then some (s.freeHeater.frostTo .watch) else none
    | .dumping =>
      if s.freshDry then some (s.setFrost { s.frost with state := .drained, drainTimer := none }) else none
    | .off | .drained => none

/-- The rows taken one after another until none applies; no event takes more than four (R176). -/
def frostRows : Nat → Bool → State → State
  | 0, _, s => s
  | n + 1, lost, s =>
    match s.frostRow lost with
    | some t => frostRows n lost t
    | none => s

/-- The FROST notice of a change from `former` (R176). -/
def State.noticeFrost (s : State) (former : FrostState) : State :=
  if s.frost.state = former then s
  else s.postAll { kind := .frost, subject := 119, value := pairValue former.code s.frost.state.code }

/-- One judgement (R176): the heater is judged, the rows are taken, and one FROST notice is posted if the state differs from
`former`, the state before the event. The allocator is informed by the caller. -/
def State.judgeFrost (s : State) (former : FrostState) (lost : Bool) : State :=
  (frostRows 6 lost (s.setFrost { s.frost with heater := s.heaterCauses })).noticeFrost former

/-- A judgement from the present state, without the allocator. -/
def State.frostJudgement (s : State) : State := s.judgeFrost s.frost.state false

/-- A judgement as an event of its own, at which the allocator makes one steady re-evaluation (R176 step 3; log entry 7). -/
def State.frostEvent (s : State) : State := s.frostJudgement.reevaluate

/-- Channel `c` is the heater or the dump valve channel, whose changes into and out of LOCKED_OUT are reported (R175). -/
def State.frostWatches (s : State) (c : Fin 16) : Bool := s.frostParams.heater = some c || s.frostParams.valve = some c

/-- Channel `c` has its lockout cleared (R152), and the frost controller judges where it watches the channel (R175). The caller's
re-evaluation follows. -/
def State.clearLockoutReported (s : State) (c : Fin 16) : State :=
  if (s.channel c).state = .lockedOut then
    let t := s.clearLockout c
    if t.frostWatches c then t.frostJudgement else t
  else s

/-- The drain timer expires in DUMPING (R178): DRAINED, with a judgement (R175). -/
def State.drainNow (s : State) : State :=
  ((s.setFrost { s.frost with state := .drained, drainTimer := none }).judgeFrost s.frost.state false).reevaluate

/-- A valve-close request is taken (R180): always outside DUMPING and DRAINED, and there only with a tank known to be at or above the
close temperature and a dump valve channel that is not LOCKED_OUT. -/
def State.valveCloseTaken (s : State) : Bool :=
  let warm := s.tank.any (s.frostParams.closeTemp ≤ ·)
  let locked := match s.frostParams.valve with
    | some c => (s.channel c).state = .lockedOut
    | none => false
  match s.frost.state with
  | .dumping | .drained => warm && !locked
  | .off | .idle | .watch | .heating => true

/-- A taken valve-close request (R180). The requested action is written in every state (R21); outside DUMPING and DRAINED nothing
else changes, so there is no judgement there either, although R175 lists every taken request (DEDUCED, log entry 16). -/
def State.takeValveClose (s : State) : State :=
  let t := s.setFrost { s.frost with requested := true }
  match s.frost.state with
  | .dumping | .drained =>
    let u := t.armValve
    let u := u.setFrost { u.frost with state := .idle, cause := .none, drainTimer := none }
    (u.judgeFrost s.frost.state false).reevaluate
  | .off | .idle | .watch | .heating => t

/-- Entry 0 re-armed or freed under new frost parameters while HEATING (R173). -/
def State.rearmHeater (s : State) : State := if s.frostParams.heater = none then s.freeHeater else s.armHeater

/-- Entry 1 re-armed or freed under new frost parameters in IDLE, WATCH and HEATING (R173). -/
def State.rearmValve (s : State) : State := if s.frostParams.valve = none then s.freeValve else s.armValve

/-- A taken commit of the frost parameters (R173). -/
def State.takeFrostParams (s : State) (p : FrostParams) : State :=
  let t := { s with frostParams := p }
  let t :=
    if p.enable = false then
      let u := t.freeHeater.freeValve
      u.setFrost { u.frost with state := .off, cause := .none, drainTimer := none }
    else if s.frost.state = .off then t.setFrost { t.frost with state := .drained, cause := .none }
    else
      let u := if s.frost.state = .heating then t.rearmHeater else t
      if s.frost.state.holdsValve then u.rearmValve else u
  let t := (t.judgeFrost s.frost.state false).reevaluate
  if p.tank = s.frostParams.tank then t else t.judgeTank

end Sys2Proof.Machine
end

