-- ==== Sys2Proof/Machine/Account.lean ====
section
/-! DEFINITION. The battery account unit (Chapter 5): the ten stages of a shunt report, the seed, the parameter commit, the tier and
the hold. -/

namespace Sys2Proof.Machine

open Sys2Proof

/-- Qn, in 0.1 A·s (5.1.1). -/
def BatteryParams.nominal (p : BatteryParams) : Nat := p.capacityAh * Config.unitsPerAh

/-- An ACCOUNT notice (5.1.2). -/
def State.postAccount (s : State) (ev : AccountEvent) : State := s.postAll { kind := .account, subject := 112, value := ev.code }

/-! ### Capacity and state of charge (5.4) -/

/-- The capacity factor at an account temperature in whole °C (R86). -/
def capacityFactor (derating : Nat) (temperature : Int) : Nat :=
  (max 512 (1024 - (derating : Int) * max 0 (25 - temperature))).toNat

/-- The state of charge (R87). -/
def socOf (charge effective : Nat) : Nat := min 1000 (1000 * charge / effective)

/-- Account temperature, capacity factor, Qeff and SoC computed afresh from a temperature in whole °C (R85 to R87). -/
def Account.appraise (a : Account) (p : BatteryParams) (temperature : Int) : Account :=
  let f := capacityFactor p.derating temperature
  let q := p.nominal * f / 1024
  { a with temperature := temperature, factor := f, effective := q, soc := socOf a.charge q }

/-- The account temperature at a seed or a parameter commit, from the designated TEMPERATURE record as it stands (R85). -/
def State.recordTemperature (s : State) : Int :=
  if s.seenFreshness s.battery.temperature .temperature = .never then 25
  else s.seenValue s.battery.temperature .temperature / 10

/-! ### Tier (5.5) -/

/-- The target tier of a state of charge (R89). -/
def BatteryParams.target (p : BatteryParams) (soc : Nat) : Tier :=
  if p.t1 ≤ soc then .normal else if p.t2 ≤ soc then .conserve else if p.t3 ≤ soc then .essential else .protect

/-- The tier one step shallower, and the threshold of the boundary to it; none above NORMAL. -/
def BatteryParams.above (p : BatteryParams) : Tier → Option (Tier × Nat)
  | .protect => some (.essential, p.t3)
  | .essential => some (.conserve, p.t2)
  | .conserve => some (.normal, p.t1)
  | .normal => none

/-- The rise toward a target, one step at a time, each taken while the SoC is at or above the threshold plus the hysteresis, and not
beyond the target (R89). -/
def BatteryParams.rise (p : BatteryParams) (soc : Nat) (target : Tier) : Nat → Tier → Tier
  | 0, t => t
  | n + 1, t =>
    if target.code < t.code then
      match p.above t with
      | some (up, threshold) => if threshold + p.hysteresis ≤ soc then p.rise soc target n up else t
      | none => t
    else t

/-- The selection of R89. -/
def BatteryParams.select (p : BatteryParams) (soc : Nat) (present : Tier) : Tier :=
  let target := p.target soc
  if present.code < target.code then target else p.rise soc target 3 present

/-- The overrides of R90: not NORMAL while unsynced, PROTECT while the low-voltage count is at or above the protect count. -/
def Account.override (a : Account) (p : BatteryParams) (t : Tier) : Tier :=
  let t := if a.synced = false ∧ t = .normal then .conserve else t
  if p.protectCount ≤ a.lowVoltage then .protect else t

/-- The tier brought up to date: by R89 and R90 while hold is clear, by R90 alone while it is set. -/
def Account.retier (a : Account) (p : BatteryParams) : Account :=
  { a with tier := a.override p (if a.hold then a.tier else p.select a.soc a.tier) }

/-- A TIER notice if the tier is not `former` (R91). -/
def State.noticeTier (s : State) (former : Tier) : State :=
  if s.account.tier = former then s
  else s.postAll { kind := .tier, subject := 112, value := pairValue former.code s.account.tier.code }

/-- The frost controller is informed of a tier that is not `former` (R91, R175). -/
def State.informFrostOfTier (s : State) (former : Tier) : State := if s.account.tier = former then s else s.frostEvent

/-! ### The stages of a shunt report (5.3) -/

/-- Stages 0 and 1: hold cleared with gap set (R93), and Δt, with gap set where the interval is clamped (R80). -/
def Account.stage1 (a : Account) (p : BatteryParams) (interval : Nat) : Account :=
  { a with hold := false, gap := a.gap || a.hold || p.maxInterval < interval }

/-- Δt (R80). -/
def BatteryParams.accounted (p : BatteryParams) (interval : Nat) : Nat := min interval p.maxInterval

/-- Stage 2: the charge product, with the efficiency applied while charging (R81). -/
def BatteryParams.product (p : BatteryParams) (current : Int) (dt : Nat) : Int :=
  let x := current * dt
  if 0 < current then x * p.efficiency / 256 else x

/-- Stage 3: the content and residue after the addition, before the clamps (R82). -/
def Account.add (a : Account) (product : Int) : Int × Nat :=
  let total : Int := (a.charge : Int) * 10000 + a.residue + product
  (total / 10000, (total % 10000).toNat)

/-- Stage 4: the content brought within 0..Qn (R83). -/
def Account.stage4 (a : Account) (p : BatteryParams) (product : Int) : Account :=
  let q := a.add product
  if q.1 < 0 then { a with charge := 0, residue := 0 }
  else if (p.nominal : Int) ≤ q.1 then { a with charge := p.nominal, residue := 0 }
  else { a with charge := q.1.toNat, residue := q.2 }

/-- Stage 4 posts EMPTY: the addition falls below 0 from a content above 0 (R83). -/
def Account.empties (a : Account) (product : Int) : Bool := (a.add product).1 < 0 && 0 < a.charge

/-- The battery floats: full voltage and a current within 0..tail current (R84). -/
def BatteryParams.floats (p : BatteryParams) (current voltage : Int) : Bool :=
  (p.fullVoltage : Int) ≤ voltage && 0 ≤ current && current ≤ p.tailCurrent

/-- The tail accumulator after stage 5's addition (R84). -/
def Account.tailAfter (a : Account) (p : BatteryParams) (current voltage : Int) (dt : Nat) : Nat :=
  if p.floats current voltage then min (a.tail + dt) (p.tailTime * 1000) else 0

/-- Stage 5 takes the battery as full (R84). -/
def Account.fills (a : Account) (p : BatteryParams) (current voltage : Int) (dt : Nat) : Bool :=
  a.tailAfter p current voltage dt = p.tailTime * 1000

/-- Stage 5: the tail check and synchronisation (R84). -/
def Account.stage5 (a : Account) (p : BatteryParams) (current voltage : Int) (dt : Nat) : Account :=
  let tail := a.tailAfter p current voltage dt
  if a.fills p current voltage dt then { a with tail := tail, charge := p.nominal, residue := 0, synced := true, gap := false }
  else { a with tail := tail }

/-- Stage 5 posts SYNC: the battery is full and was not both synced and without a gap (R84). -/
def Account.syncs (a : Account) (p : BatteryParams) (current voltage : Int) (dt : Nat) : Bool :=
  a.fills p current voltage dt && (!a.synced || a.gap)

/-- Stage 8: the low-voltage count (R88). -/
def Account.stage8 (a : Account) (p : BatteryParams) (voltage : Int) : Account :=
  { a with lowVoltage := if voltage < (p.protectVoltage : Int) then satInc 255 a.lowVoltage else 0 }

/-- The account after the processing of a shunt report (R79 to R90). -/
def Account.process (a : Account) (p : BatteryParams) (r : ShuntReport) : Account :=
  let interval := r.interval.toNat
  let dt := p.accounted interval
  let a1 := a.stage1 p interval
  let a4 := a1.stage4 p (p.product r.current dt)
  let a5 := a4.stage5 p r.current r.voltage dt
  let a7 := a5.appraise p (r.temperature / 10)
  let a9 := (a7.stage8 p r.voltage).retier p
  { a9 with reports := wrapInc 65535 a9.reports }

/-- The ACCOUNT notices of a shunt report, in the order of its stages: RESUME, EMPTY, SYNC (R79). -/
def Account.events (a : Account) (p : BatteryParams) (r : ShuntReport) : List AccountEvent :=
  let interval := r.interval.toNat
  let dt := p.accounted interval
  let a1 := a.stage1 p interval
  let a4 := a1.stage4 p (p.product r.current dt)
  (if a.hold then [.resume] else [])
    ++ (if a1.empties (p.product r.current dt) then [.empty] else [])
    ++ (if a4.syncs p r.current r.voltage dt then [.sync] else [])

/-- A shunt report reaches the battery account unit (R79): its notices, then the allocator informed once where the tier or hold
changed, then the frost controller where the tier changed (R91, R175). -/
def State.shuntReport (s : State) (r : ShuntReport) : State :=
  let former := s.account
  let t := s.setAccount (former.process s.battery r)
  let t := (former.events s.battery r).foldl State.postAccount t
  let t := t.noticeTier former.tier
  let changed : Bool := t.account.tier ≠ former.tier || former.hold
  let t := if changed then t.rebudget else t
  t.informFrostOfTier former.tier

/-- Hold is set when the designated CURRENT record becomes STALE and hold is clear (R92). -/
def State.setHold (s : State) : State :=
  if s.account.hold then s else ((s.setAccount { s.account with hold := true }).postAccount .hold).rebudget

/-! ### Seed and parameters (R78, R94) -/

/-- The account after a taken seed (R94). -/
def Account.seeded (a : Account) (p : BatteryParams) (v : Nat) (temperature : Int) : Account :=
  ({ a with seed := v, lastSeed := some v, charge := p.nominal * v / 1000, residue := 0, synced := false, gap := true
            tail := 0 }.appraise p temperature).retier p

/-- A taken seed commit (R94). -/
def State.takeSeed (s : State) (v : Nat) : State :=
  let former := s.account.tier
  let t := ((s.setAccount (s.account.seeded s.battery v s.recordTemperature)).postAccount .seeded).noticeTier former
  let t := if t.account.tier = former then t else t.rebudget
  t.informFrostOfTier former

/-- The account brought up to date under new battery parameters `p`, the old capacity being `oldAh` (R78). -/
def Account.reparam (a : Account) (p : BatteryParams) (oldAh : Nat) (temperature : Int) : Account :=
  let a := if p.capacityAh = oldAh then a else { a with synced := false, gap := true }
  let a := if p.nominal < a.charge then { a with charge := p.nominal, residue := 0 } else a
  ({ a with tail := 0 }.appraise p temperature).retier p

/-- A taken commit of the battery parameters (R78): the account, the configuration flags (R28), a TIER notice if the tier changed, the
budget (R107) and the frost controller (R91). -/
def State.takeBattery (s : State) (p : BatteryParams) : State :=
  let former := s.account.tier
  let t := { s with battery := p }
  let t := t.setAccount (t.account.reparam p s.battery.capacityAh t.recordTemperature)
  let t := (t.recomputeFlags true).noticeTier former
  t.rebudget.informFrostOfTier former

end Sys2Proof.Machine
end

