-- ==== Sys2Proof/Machine/Measurement.lean ====
section
/-! DEFINITION. Measurement records and the reading queue (Chapter 4): dispatch of one reading, ageing, level filtering, the
consumers of a record, and the commit of a descriptor. -/

namespace Sys2Proof.Machine

open Sys2Proof

/-! ### One record -/

/-- A value clamped to the range of its kind (R61, table of 4.1). -/
def MeasKind.clamp (k : MeasKind) (v : Int) : Int :=
  match k with
  | .temperature => clampInt (-400) 850 v
  | .level => clampInt 0 1000 v
  | .current => clampInt (-32768) 32767 v
  | .voltage | .interval => clampInt 0 65535 v
  | .headroom => clampInt 0 2000 v
  | .wind => clampInt 0 600 v

/-- The filter accumulator in TRAVEL after a reading (R70). -/
def filterAccumulator (accumulator reading : Nat) : Nat := accumulator - accumulator / 8 + reading

/-- The filtered value of an accumulator (R70). -/
def filterValue (accumulator : Nat) : Nat := (accumulator + 4) / 8

/-- The filtered value and the accumulator of a LEVEL record brought up to date by a reading under `mode` (R70); those of another kind
stay as they are. -/
def MeasRecord.filter (m : MeasRecord) (mode : Mode) (reading : Nat) : MeasRecord :=
  if m.desc.kind ≠ .level then m
  else if mode ≠ .travel then { m with filtered := reading }
  else if m.freshness = .never then { m with accumulator := 8 * reading, filtered := reading }
  else
    let acc := filterAccumulator m.accumulator reading
    { m with accumulator := acc, filtered := filterValue acc }

/-- The update of a record that receives a reading of clamped value `v` (R63). -/
def MeasRecord.update (m : MeasRecord) (mode : Mode) (v : Int) : MeasRecord :=
  { m.filter mode v.toNat with
    value := v
    age := 0
    freshness := .fresh
    updates := wrapInc 255 m.updates
    lost := PerPort.zipWith (· || ·) m.lost m.unread
    unread := PerPort.all true }

/-- A record goes STALE at this poll-period start (R66). -/
def MeasRecord.goesStale (m : MeasRecord) : Bool :=
  m.freshness = .fresh && (m.desc.staleLimit < satInc 240 m.age || 240 ≤ m.age)

/-- A bound record after one more poll period (R66). -/
def MeasRecord.aged (m : MeasRecord) : MeasRecord :=
  { m with age := satInc 240 m.age, freshness := if m.goesStale then .stale else m.freshness }

/-- A descriptor commit rebinds the record (R60). -/
def MeasRecord.rebinds (m : MeasRecord) (d : MeasDescriptor) : Bool :=
  m.desc.address ≠ d.address || m.desc.channel ≠ d.channel || m.desc.kind ≠ d.kind

/-- The record under a new descriptor (R60). -/
def MeasRecord.bindTo (m : MeasRecord) (d : MeasDescriptor) : MeasRecord :=
  if m.rebinds d then freshMeas d else { m with desc := d }

/-- A record whose filter a change of mode touches: a LEVEL record that is not STALE (R69, R70; that the seeding leaves a STALE record too is
DEDUCED, log entry 36). -/
def MeasRecord.refilters (m : MeasRecord) : Bool := m.desc.kind = .level && m.freshness ≠ .stale

/-- A record at a change of mode into TRAVEL (R69). -/
def MeasRecord.seedFilter (m : MeasRecord) : MeasRecord :=
  if m.refilters then { m with accumulator := 8 * m.value.toNat, filtered := m.value.toNat } else m

/-- A record at a change of mode out of TRAVEL (R70). -/
def MeasRecord.dropFilter (m : MeasRecord) : MeasRecord :=
  if m.refilters then { m with filtered := m.value.toNat } else m

/-! ### Consumers (R64) -/

/-- Record `k` is the WIND record that the motion parameters designate, bound with kind WIND. -/
def State.isWindRecord (s : State) (k : Fin 24) : Bool := s.motionParams.wind = some k && (s.measRec k).desc.kind = .wind

/-- Record `k` is one whose arrivals and freshness changes the frost controller judges (R175). -/
def State.frostReads (s : State) (k : Fin 24) : Bool :=
  s.frostParams.tank = some k || s.frostParams.outside = some k || s.frostParams.fresh = some k

/-- The scheduler, the frost controller and the grant allocator are informed of an arrival at record `k` or a change of its freshness.
The scheduler judges calling (R129), the frost controller judges once (R175), and the allocator makes one steady re-evaluation for the
event, with the budget recomputed first for a HEADROOM record (R107, R112). -/
def State.informConsumers (s : State) (k : Fin 24) (headroom : Bool) : State :=
  let t := if s.sched.cabin = some k then s.judgeCabin else s
  let t := if s.frostParams.tank = some k then t.judgeTank else t
  let t := if s.frostReads k then t.frostJudgement else t
  if headroom then t.rebudget
  else if s.frostReads k ∨ s.frostParams.grey = some k then t.reevaluate
  else t

/-! ### Dispatch (4.2) -/

/-- Record `k` receives a reading of clamped value `v`, and its consumers are informed of the arrival (R63, R64, R167). -/
def State.receive (s : State) (k : Fin 24) (v : Int) : State :=
  let put (t : State) : State := t.setMeas k ((t.measRec k).update t.mode v)
  let t := if s.isWindRecord k then motionEvent (fun t => (put t).windReading v) s else put s
  t.informConsumers k ((s.measRec k).desc.kind = .headroom)

/-- Record `k` matches a reading (R62). -/
def State.matchesReading (s : State) (r : Reading) (k : Fin 24) : Bool :=
  let d := (s.measRec k).desc
  d.address = r.address && d.channel = r.channel && d.kind = r.kind

/-- The lowest-numbered record that matches a reading (R62). -/
def State.matchOf (s : State) (r : Reading) : Option (Fin 24) := (indexes 24).find? (s.matchesReading r)

/-- A reading written at the put position (R72). -/
def ReadingQueue.push (q : ReadingQueue) (r : QueuedReading) : ReadingQueue :=
  { places := vset q.places q.put r
    put := q.put + 1
    get := if 16 ≤ q.fill then q.get + 1 else q.get
    fill := min 16 (q.fill + 1)
    overrun := q.overrun || 16 ≤ q.fill }

/-- The oldest reading removed at the completion of a fetch, with the overrun flag reported and cleared (R73). -/
def ReadingQueue.pop (q : ReadingQueue) : ReadingQueue :=
  if q.fill = 0 then q else { q with get := q.get + 1, fill := q.fill - 1, overrun := false }

/-- A reading that no record takes is queued, with a QUEUE notice when the queue was empty (R72). -/
def State.enqueue (s : State) (r : Reading) : State :=
  let t := { s with queue := s.queue.push { reading := r, arrival := s.line.periodCount } }
  if s.queue.fill = 0 then t.postPanels { kind := .queue, subject := 124, value := pairValue r.address r.channel } else t

/-- The reading queue takes a reading of this address (R62). -/
def State.queueTakes (s : State) (r : Reading) : Bool :=
  s.line.queueEnable && s.line.windowLow ≤ r.address && r.address ≤ s.line.windowHigh

/-- One reading of a good poll is dispatched (R61, R62). -/
def State.dispatch (s : State) (raw : Reading) : State :=
  let r := { raw with value := raw.kind.clamp raw.value }
  match s.matchOf r with
  | some k => s.receive k r.value
  | none => if s.queueTakes r then s.enqueue r else s

/-! ### Ageing (4.3) -/

/-- The STALE notice of record `k` (R67). -/
def staleNotice (k : Fin 24) (v : Int) : Notice := { kind := .stale, subject := measRecord k, value := twos16 v }

/-- One measurement record at a poll-period start (R66, R67): if it goes STALE its notice is posted and its consumers are informed, the
battery account unit of the designated CURRENT record (R92) and the motion controller of the designated WIND record (R168)
among them. An unbound record is not aged. Where several records go STALE at one start, each is aged and its consumers informed before the
next is aged, so that these still read a higher-numbered record as FRESH (DESIGN CHOICE, log entry 37). -/
def State.ageRecord (k : Fin 24) (s : State) : State :=
  let m := s.measRec k
  if m.desc.address = 0 then s
  else if m.goesStale = false then s.setMeas k m.aged
  else
    let post (t : State) : State := (t.setMeas k m.aged).postAll (staleNotice k m.value)
    let t := if s.isWindRecord k then motionEvent (fun t => (post t).windStale) s else post s
    let t := if s.battery.current = some k ∧ m.desc.kind = .current then t.setHold else t
    t.informConsumers k (m.desc.kind = .headroom)

/-! ### Descriptor commits (R60) -/

/-- A taken commit of a measurement record: its descriptor, the status part of a rebound record, the consumers of a record that was FRESH
or STALE, and the configuration flags (R28). -/
def State.takeMeas (s : State) (k : Fin 24) (d : MeasDescriptor) : State :=
  let m := s.measRec k
  let put (t : State) : State := t.setMeas k (m.bindTo d)
  let t :=
    if m.rebinds d ∧ m.freshness ≠ .never then
      let t := if s.motionParams.wind = some k then motionEvent put s else put s
      t.informConsumers k (m.desc.kind = .headroom ∨ d.kind = .headroom)
    else put s
  t.recomputeFlags t.modeCtl.batteryCommitted

/-! ### Mode changes (4.4) -/

/-- The LEVEL records are seeded at a change of mode into TRAVEL (R69). -/
def State.seedFilters (s : State) : State := forEach (fun k t => t.setMeas k (t.measRec k).seedFilter) s

/-- The filtered value of record `k` changes at a change of mode out of TRAVEL (R70). -/
def State.filterChanges (s : State) (k : Fin 24) : Bool := (s.measRec k).dropFilter.filtered ≠ (s.measRec k).filtered

/-- A LEVEL record takes its value as its filtered value at a change of mode out of TRAVEL, and the frost controller judges where
that changes the fresh level (R70, R175). The re-evaluation for the mode follows. That it judges so at a RESTART too, where R40 and R182 keep
the frost state and the drain timer, is DEDUCED (log entry 35). -/
def State.dropFilters (s : State) : State :=
  let changed := (indexes 24).any fun k => s.frostParams.fresh = some k && s.filterChanges k
  let t := forEach (fun k t => t.setMeas k (t.measRec k).dropFilter) s
  if changed then t.frostJudgement else t

end Sys2Proof.Machine
end

