-- ==== Sys2Proof/Machine/Line.lean ====
section
/-! DEFINITION. The sender line controller (Chapter 3): the poll period, the pass over the poll list, the poll transaction, the
response check, sender health and the shunt report; and the commands POLL_PERIOD_START to STRAY_CHARACTER. -/

namespace Sys2Proof.Machine

open Sys2Proof

/-! ### The poll (R45 to R48) -/

/-- The two characters of a poll: the address character, with its ninth bit 1, and the POLL data character (R48, 11.3). -/
def pollCharacters (address : Nat) : List LineChar :=
  [BitVec.ofNat 9 (256 + address % 256), BitVec.ofNat 9 Config.pollCode]

/-- A poll is sent (R48). The time its two characters take in SENDING is not modelled: the line is in RECEIVING with the response window
open when the command ends. -/
def State.sendPoll (s : State) (source : PollSource) (address : Nat) : State :=
  s.setLine
    { s.line with
      state := .receiving
      transaction := some { address := address, source := source, received := [], check := 0 }
      windowTimer := some Config.responseWindowMs
      gapTimer := none
      sent := pollCharacters address }

/-- A poll may begin: the line is IDLE with no transaction in flight, and its quiet time is over (R42, R45). -/
def LineControl.mayPoll (l : LineControl) : Bool := l.state = .idle && l.transaction.isNone && l.quiet = 0

/-- The pass considers the entry at the pointer, which moves on (R46). -/
def LineControl.consider (l : LineControl) : LineControl := { l with pointer := l.pointer + 1, considered := l.considered + 1 }

/-- The list poll of entry `j` is sent and counted against the polls allowed (R45). -/
def State.pollEntry (s : State) (j : Fin 32) : State :=
  (s.setLine { s.line with listAllowed := s.line.listAllowed - 1 }).sendPoll (.entry j) (s.poll j).address

/-- The pass from the pointer, over at most `n` entries, to the next entry it polls (R46, R47). -/
def pass : Nat → State → State
  | 0, s => s
  | n + 1, s =>
    if Config.considerationsPerPeriod ≤ s.line.considered then s
    else
      let j := s.line.pointer
      let e := s.poll j
      let t := s.setLine s.line.consider
      if e.address = 0 then pass n t
      else if e.sender.health = .absent then
        let skip := e.skip - 1
        if 0 < skip then pass n (t.setPoll j { e with skip := skip })
        else (t.setPoll j { e with skip := Config.absentSkip }).pollEntry j
      else t.pollEntry j

/-- SHUNT_POLL (R45): when a poll may begin and the shunt poll is due, it is sent to the shunt address, or dropped where that is 0. -/
def State.pollShunt (s : State) : State :=
  if s.line.mayPoll ∧ s.line.shuntDue then
    let t := s.setLine { s.line with shuntDue := false }
    if s.line.shuntAddress = 0 then t else t.sendPoll .shunt s.line.shuntAddress
  else s

/-- LIST_POLL (R45, R46): when a poll may begin, the shunt poll is not due and a list poll is allowed, the pass gives its next poll. -/
def State.pollNext (s : State) : State :=
  if s.line.mayPoll ∧ s.line.shuntDue = false ∧ 0 < s.line.listAllowed then pass Config.considerationsPerPeriod s else s

/-! ### The response check (R51) -/

/-- One step of the check: doubled within 8 bits, and combined with 7 where the bit shifted out was 1 (R51). -/
def checkStep (c : Byte) : Byte := if c.msb then (c <<< 1) ^^^ 7#8 else c <<< 1

/-- The check after one more character (R51). -/
def checkAfter (check char : Byte) : Byte := checkStep^[8] (check ^^^ char)

/-! ### Sender health (3.5) -/

/-- The health that a failure count stands for (R53, R54). -/
def healthOf (failures : Nat) : Health := if failures = 0 then .present else if failures < 3 then .suspect else .absent

/-- A failed poll (R53, R54). -/
def SenderHealth.fail (h : SenderHealth) (f : PollFault) : SenderHealth :=
  { failures := satInc 3 h.failures, health := healthOf (satInc 3 h.failures), lastFault := f }

/-- A poll's outcome at its entry: NONE for a good poll, with the skip count loaded at entering ABSENT and 0 after a good poll (R53). -/
def PollEntry.outcome (e : PollEntry) (f : PollFault) : PollEntry :=
  if f = .none then { e with sender := soundSender, skip := 0 }
  else
    let h := e.sender.fail f
    { e with sender := h, skip := if h.health = .absent ∧ e.sender.health ≠ .absent then Config.absentSkip else e.skip }

/-- The SENDER notice of poll entry `j` for entering or leaving ABSENT (R53). -/
def State.noticeSender (s : State) (j : Fin 32) (former new : Health) : State :=
  if former = .absent ↔ new = .absent then s
  else s.postPanels { kind := .sender, subject := pollRecord j, value := pairValue former.code new.code }

/-- The health change at the completion of a poll, where the address still stands (R53, R54, R56). -/
def State.applyHealth (s : State) (x : Transaction) (f : PollFault) : State :=
  match x.source with
  | .shunt =>
    if s.line.shuntAddress = x.address then
      s.setLine { s.line with shunt := if f = .none then soundSender else s.line.shunt.fail f }
    else s
  | .entry j =>
    let e := s.poll j
    if e.address = x.address then
      (s.setPoll j (e.outcome f)).noticeSender j e.sender.health (e.outcome f).sender.health
    else s

/-- The transaction ends: the line returns to IDLE and owes its quiet time (R42). -/
def LineControl.endTransaction (l : LineControl) : LineControl :=
  { l with state := .idle, transaction := none, quiet := Config.quietMs, windowTimer := none, gapTimer := none }

/-- A poll fails (R50). -/
def State.failPoll (s : State) (x : Transaction) (f : PollFault) : State :=
  (s.setLine s.line.endTransaction).applyHealth x f

/-! ### The shunt report (R57) -/

/-- Designated record `d` is one that receives a reading of this response, and is of the kind designated. -/
def State.reached (s : State) (d : Option (Fin 24)) (kind : MeasKind) (rs : List Reading) : Bool :=
  d.any fun k => (s.measRec k).desc.kind = kind && rs.any fun r => s.matchOf r = some k

/-- A shunt report is formed where all four designated records received a reading from this poll (R57). -/
def State.formShuntReport (s : State) (rs : List Reading) : State :=
  let p := s.battery
  if s.reached p.current .current rs && s.reached p.voltage .voltage rs && s.reached p.temperature .temperature rs
      && s.reached p.interval .interval rs then
    s.shuntReport
      { current := s.seenValue p.current .current, voltage := s.seenValue p.voltage .voltage
        temperature := s.seenValue p.temperature .temperature, interval := s.seenValue p.interval .interval }
  else s

/-- A good poll (R52): the health change, each reading in turn, and the shunt report after a shunt poll. `body` is the response without its
count and check characters. All of it is one step, with no other command between two readings (DESIGN CHOICE, log entry 34). -/
def State.completePoll (s : State) (x : Transaction) (body : List Byte) : State :=
  let t := (s.setLine s.line.endTransaction).applyHealth x .none
  let rs := readingsOf x.address body
  let t := rs.foldl State.dispatch t
  if x.source = .shunt then t.formShuntReport rs else t

/-! ### Response characters (R49, R50) -/

/-- A character outside a transaction is discarded; one that arrives during the quiet time restarts it (R42). -/
def State.discardCharacter (s : State) : State :=
  if 0 < s.line.quiet then s.setLine { s.line with quiet := Config.quietMs } else s

/-- A data character that neither fails nor ends the response: kept, with the check brought up to date, and the gap of R50 measured from
it. -/
def State.keepCharacter (s : State) (x : Transaction) (b : Byte) : State :=
  s.setLine
    { s.line with
      transaction := some { x with received := x.received ++ [b], check := checkAfter x.check b }
      windowTimer := none
      gapTimer := some Config.gapMs }

/-- A character of a response arrives in the transaction `x` (R49, R50). -/
def State.takeCharacter (s : State) (x : Transaction) (c : LineChar) : State :=
  let b : Byte := c.truncate 8
  if c.msb then s.failPoll x .addressBit
  else
    match x.received with
    | [] => if 4 < b.toNat then s.failPoll x .count else s.keepCharacter x b
    | n :: body =>
      if body.length < 3 * n.toNat then s.keepCharacter x b
      else if b = x.check then s.completePoll x body
      else s.failPoll x .check

/-! ### Commits (R43, R55) -/

/-- A taken commit of the line parameters (R43). -/
def State.takeLine (s : State) (shunt : Nat) (enable : Bool) (low high : Nat) : State :=
  s.setLine
    { s.line with
      shuntAddress := shunt
      queueEnable := enable
      windowLow := low
      windowHigh := high
      shunt := if shunt = s.line.shuntAddress then s.line.shunt else soundSender }

/-- A taken commit of a poll entry (R55). -/
def State.takePoll (s : State) (j : Fin 32) (address : Nat) : State :=
  if (s.poll j).address = address then s else s.setPoll j { address := address, sender := soundSender, skip := 0 }

/-! ### The commands -/

/-- POLL_PERIOD_START (R44). The poll-period timer runs without pause and is loaded again. The records are aged one by one, each with the
consumers that it informs, in ascending number (R67 gives the order of the notices; the rest is a DESIGN CHOICE, log entry 37). -/
def execPollPeriodStart (s : State) : Host.Outcome State Fault Refusal :=
  let t := s.setLine { s.line with periodCount := wrapInc 65535 s.line.periodCount, pollTimer := Config.pollPeriodMs }
  let t := forEach State.ageRecord t
  .next (t.setLine { t.line with shuntDue := true, listAllowed := Config.listPollsPerPeriod, considered := 0 })

/-- SHUNT_POLL (R45). -/
def execShuntPoll (s : State) : Host.Outcome State Fault Refusal := .next s.pollShunt

/-- LIST_POLL (R45, R46, R47). -/
def execListPoll (s : State) : Host.Outcome State Fault Refusal := .next s.pollNext

/-- RESPONSE_CHARACTER (R49, R50). With no transaction in flight it is a stray character (R42). -/
def execResponseCharacter (c : LineChar) (s : State) : Host.Outcome State Fault Refusal :=
  match s.line.transaction with
  | some x => .next (s.takeCharacter x c)
  | none => .next s.discardCharacter

/-- RESPONSE_WINDOW_EXPIRY (R50): the poll fails as SILENT where the window is open. -/
def execResponseWindowExpiry (s : State) : Host.Outcome State Fault Refusal :=
  match s.line.transaction, s.line.windowTimer with
  | some x, some _ => .next (s.failPoll x .silent)
  | _, _ => .next s

/-- GAP_EXPIRY (R50): the poll fails with GAP where a response has begun. -/
def execGapExpiry (s : State) : Host.Outcome State Fault Refusal :=
  match s.line.transaction, s.line.gapTimer with
  | some x, some _ => .next (s.failPoll x .gap)
  | _, _ => .next s

/-- STRAY_CHARACTER (R42): whatever it carries, it is discarded. -/
def execStrayCharacter (_c : LineChar) (s : State) : Host.Outcome State Fault Refusal :=
  match s.line.transaction with
  | some _ => .next s
  | none => .next s.discardCharacter

end Sys2Proof.Machine
end

