-- ==== Sys2Proof/Machine/Slots.lean ====
section
/-! DEFINITION. The slot scheduler (Chapter 7): matching, ownership, the verdict, the slot boundary and the start of a run; the hold
timer of an entry (R102); and the commands HOLD_TIMER_EXPIRY and SLOT_BOUNDARY. -/

namespace Sys2Proof.Machine

open Sys2Proof

/-! ### Matching and the verdict (7.2) -/

/-- Entry `i` matches slot `slot` of cycle `cycle` (R126). -/
def State.matchesSlot (s : State) (slot cycle : Nat) (i : Fin 48) : Bool :=
  let e := s.entry i
  (s.descOf i).kind = .heavy && e.state ≠ .free && e.state ≠ .done
    && e.fields.slotFirst ≤ slot && slot < e.fields.slotFirst + e.fields.slotSpan
    && cycle % e.fields.repetition = e.fields.base

/-- The owner of a slot: the lowest-numbered entry that matches it (R127). -/
def State.slotOwner (s : State) (slot cycle : Nat) : Option (Fin 48) := (indexes 48).find? (s.matchesSlot slot cycle)

/-- The demand of an owner keeps its slot idle: a SETPOINT entry that is not calling, or a LEVEL of 0 (R127). -/
def Entry.idleReason (e : Entry) : Option Reason :=
  match e.fields.demand with
  | .setpoint _ => if e.calling then none else some .notCalling
  | .level l => if l = 0 then some .none else none
  | .none | .motion _ => none

/-- The decision about a slot owned by entry `i` (table of R127). -/
def State.ownerDecision (s : State) (i : Fin 48) : SlotDecision :=
  let e := s.entry i
  let idle (r : Reason) (aside : Bool) : SlotDecision :=
    { owner := some i, channel := e.fields.channel, verdict := .idle, reason := r, aside := aside }
  if e.state = .held then idle .none true
  else if e.state = .blocked then idle e.reason true
  else
    match e.idleReason with
    | some r => idle r false
    | none =>
      if s.account.tier.sheds e.fields.cls then idle .tier false
      else if s.chanState i = .tripped then idle .tripped false
      else if s.chanState i = .lockedOut then idle .lockedOut false
      else { owner := some i, channel := e.fields.channel, verdict := .run, reason := .none, aside := false }

/-- The decision about slot `slot` of cycle `cycle` (R127). -/
def State.decideSlot (s : State) (slot cycle : Nat) : SlotDecision :=
  match s.slotOwner slot cycle with
  | some i => s.ownerDecision i
  | none => { owner := none, channel := 0, verdict := .idle, reason := .none, aside := false }

/-- The slot and the cycle that follow (R125). -/
def nextSlot (slot cycle : Nat) : Nat × Nat := if 15 ≤ slot then (0, wrapInc 63 cycle) else (slot + 1, cycle)

/-! ### Step 1: the present run (R131) -/

/-- The run of entry `i` ends at a boundary and is counted as completed (R131). -/
def State.completeRun (s : State) (i : Fin 48) : State :=
  let e := s.entry i
  let t := s.setEntry i { e with runs := wrapInc 65535 e.runs }
  match e.fields.persistence with
  | .once => t.endRunAs .done .complete
  | .standing => t.endRunAs .waiting .none

/-- The present run settled against the decision for slot `slot`, which has just begun (R131): it continues, is interrupted or ends. A decision of
IDLE for TIER for the running entry interrupts the run uncounted at slot 0 too, as the second case of R131 says of any slot, although its text
after the cases has a run end and be counted as completed there (DESIGN CHOICE, log entry 47). -/
def State.settleRun (s : State) (slot : Nat) : State :=
  match s.budget.run with
  | none => s
  | some r =>
    match s.sched.decision with
    | none => s.completeRun r.entry
    | some d =>
      if d.owner = some r.entry ∧ d.verdict = .run ∧ slot ≠ 0 then s
      else if d.owner = some r.entry ∧ d.verdict = .idle ∧ d.reason = .tier then s.dropRun
      else s.completeRun r.entry

/-! ### Steps 2 and 3: the decision carried out, and starvation (R132 to R134) -/

/-- The starvation count of entry `i` increments (R134). -/
def State.starve (s : State) (i : Fin 48) : State :=
  let e := s.entry i
  s.setEntry i { e with starvation := satInc 255 e.starvation }

/-- The state an IDLE verdict writes (R133). -/
def idleState : Reason → EntryState
  | .tier | .lockedOut => .shed
  | .none | .noBudget | .mode | .interlock | .sensor | .tripped | .notCalling | .noHeadroom | .degraded | .timeout
  | .jammed | .fault | .expired | .complete | .cancelled => .waiting

/-- An idle reason that counts as starvation (R134). -/
def Reason.starves : Reason → Bool
  | .tier | .tripped | .lockedOut => true
  | .none | .noBudget | .mode | .interlock | .sensor | .notCalling | .noHeadroom | .degraded | .timeout
  | .jammed | .fault | .expired | .complete | .cancelled => false

/-- A standing into which an IDLE verdict is written (R133). -/
def EntryState.takesIdle : EntryState → Bool
  | .waiting | .granted | .shed => true
  | .free | .held | .superseded | .blocked | .done => false

/-- An IDLE verdict written into its owner (R133, R134). It is written into an owner that has moved to another channel since the decision too, a
steady one included, since R133 names no check of the channel (DESIGN CHOICE, log entry 44). -/
def State.writeIdle (s : State) (d : SlotDecision) (i : Fin 48) : State :=
  if d.aside = false ∧ (s.entry i).state.takesIdle then
    let t := s.stand i (idleState d.reason) d.reason
    if d.reason.starves then t.starve i else t
  else s

/-- A RUN verdict is withdrawn (R132): its owner is FREE, HELD, DONE or BLOCKED, or targets another channel than at the decision, or its
channel is no longer HEAVY (R137). So is one of an entry recommitted at LEVEL 0 on a dump valve channel that is no longer held closed: the law
of R179, in a way that is the model's (DESIGN CHOICE, log entry 41). -/
def State.withdrawn (s : State) (d : SlotDecision) (i : Fin 48) : Bool :=
  let e := s.entry i
  e.state = .free || e.state = .held || e.state = .done || e.state = .blocked || e.fields.channel ≠ d.channel
    || (s.descOf i).kind ≠ .heavy || s.valveOpen e.fields.channel

/-- A run of entry `i` starts (R132). -/
def State.startRun (s : State) (i : Fin 48) : State :=
  let e := s.entry i
  let c := e.fields.channel
  let x := s.channel c
  let t := s.setEntry i { e.stand .granted .none with grantedLevel := none, starvation := 0 }
  let t := t.setChannel c x.runOn
  let t := t.setRow c { t.row c with entry := some i, level := 100 }
  t.setBudget { t.budget with run := some { entry := i, channel := c, need := x.desc.nominal } }

/-- A RUN verdict carried out for owner `i` that does not hold the present run (R132, R134). -/
def State.carryRun (s : State) (d : SlotDecision) (i : Fin 48) : State :=
  if s.withdrawn d i then s
  else
    match s.chanState i with
    | .tripped => (s.stand i .waiting .tripped).starve i
    | .lockedOut => (s.stand i .shed .lockedOut).starve i
    | .off | .on | .ramping | .lit | .stopped | .driveOut | .driveIn | .dead =>
      if ((s.descOf i).nominal : Int) ≤ s.budget.headroom then s.startRun i
      else (s.stand i .waiting .noHeadroom).starve i

/-- Steps 2 and 3 of a boundary: the decision for the slot just begun is carried out, and starvation counted (R132 to R134). -/
def State.carryOut (s : State) (d : SlotDecision) : State :=
  match d.owner with
  | none => s
  | some i =>
    match d.verdict with
    | .none => s
    | .idle => s.writeIdle d i
    | .run => if s.holdsRun i then s else s.carryRun d i

/-! ### The boundary (R130) -/

/-- The counters advance and the slot timer is loaded (R125). -/
def Scheduler.advance (x : Scheduler) : Scheduler :=
  let next := nextSlot x.slot x.cycle
  { x with slot := next.1, cycle := next.2, slotTimer := x.slotLength * 1000 }

/-- The next slot is decided (R130 step 4). -/
def State.decideNext (s : State) : State :=
  let next := nextSlot s.sched.slot s.sched.cycle
  s.setSched { s.sched with decision := some (s.decideSlot next.1 next.2) }

/-- An entry that was not DONE in `base` is DONE. -/
def State.someDone (s : State) (base : Vector Entry 48) : Bool :=
  (indexes 48).any fun i => (s.entry i).state = .done && (vget base i).state ≠ .done

/-- A slot boundary up to the end of its step 5 (R130). -/
def State.boundaryWork (s : State) : State :=
  let t := s.setSched s.sched.advance
  let t := t.settleRun t.sched.slot
  let t := match s.sched.decision with
    | some d => t.carryOut d
    | none => t
  t.decideNext

/-- A slot boundary (R130). -/
def State.boundary (s : State) : State :=
  let t := s.boundaryWork
  let u := noticeEntries s.entries .none t
  let u := if (t.entry 0).starvation = (s.entry 0).starvation then u else u.frostEvent
  if t.someDone s.entries then u.reevaluate else u

/-! ### Slot parameters (R124) -/

/-- A taken commit of the slot parameters (R124). -/
def State.takeSlots (s : State) (length : Nat) (cabin : Option (Fin 24)) : State :=
  let t := s.setSched { s.sched with slotLength := length, cabin := cabin }
  if cabin = s.sched.cabin then t else t.judgeCabin

/-! ### The hold timer (R102) -/

/-- Entry `i` expires: DONE with reason EXPIRED, its run ended (R136), and the allocator re-evaluates (R102). A commit that falls together with
the expiry may so leave the entry otherwise when it comes second than when it comes first, which R103 says it does not (DESIGN CHOICE, log entry
43). -/
def State.expireEntry (s : State) (i : Fin 48) : State := ((s.dropRunOf i).stand i .done .expired).reevaluateFrom s.entries .none

/-! ### The commands -/

/-- HOLD_TIMER_EXPIRY (R102), where the timer runs. -/
def execHoldTimerExpiry (i : Fin 48) (s : State) : Host.Outcome State Fault Refusal :=
  match (s.entry i).holdTimer with
  | some _ => .next (s.expireEntry i)
  | none => .next s

/-- SLOT_BOUNDARY (R130). The slot timer runs without pause. -/
def execSlotBoundary (s : State) : Host.Outcome State Fault Refusal := .next s.boundary

end Sys2Proof.Machine
end

