-- ==== Sys2Proof/Machine/Channels.lean ====
section
/-! DEFINITION. The events of the output channel bank (Chapter 8): ramps, pulse periods, current sense and trips, retries, clean time,
dead time and the commit of a channel descriptor; and the commands RAMP_EVENT to DEAD_TIMER_EXPIRY. -/

namespace Sys2Proof.Machine

open Sys2Proof

/-- Every channel changed alike. -/
def State.mapChannels (s : State) (f : Channel → Channel) : State := { s with channels := s.channels.map f }

/-! ### Current sense (8.4) -/

/-- The sample of channel `c` at a sense event; a sample that the command does not carry reads 0. -/
def State.sampleOf (s : State) (samples : List Nat) (c : Fin 16) : Nat := (s.channel c).sampled (samples.getD c.1 0)

/-- The samples of a sense event written into the channel table of record 113 (R148). -/
def State.writeSamples (s : State) (samples : List Nat) : State :=
  forEach (fun c t => t.setRow c { t.row c with sensed := s.sampleOf samples c }) s

/-- The present run is on channel `c`. -/
def State.runsOn (s : State) (c : Fin 16) : Bool := s.budget.run.any fun r => r.channel = c

/-- The frost controller receives the report that channel `c` became LOCKED_OUT (R175, R176). -/
def State.reportLockout (s : State) (c : Fin 16) : State :=
  if s.frostWatches c then s.judgeFrost s.frost.state (s.frostParams.valve = some c) else s

/-- The slot scheduler ends the run of a tripped channel, with its ENTRY notice (R135, R149). -/
def State.reportHeavyTrip (s : State) (c : Fin 16) : State :=
  if s.runsOn c then noticeEntries s.entries .none (s.endRunAs .waiting .tripped) else s

/-- The motion controller receives the trip of a bridge (R149, R158). -/
def State.reportBridgeTrip (s : State) (c : Fin 16) : State :=
  if c = 14 then motionWork State.stepTripped s else if c = 15 then motionWork State.awningTripped s else s

/-- A trip of channel `c` (R149, R152): its CHANNEL notice where it locks out, and then the frost controller, the slot scheduler, the
motion controller and the grant allocator, which makes one steady re-evaluation. -/
def State.trip (s : State) (c : Fin 16) : State :=
  let x := s.channel c
  let t := s.setChannel c x.tripNow
  let t :=
    if x.tripNow.state = .lockedOut then (t.postAll (channelNotice c x.state .lockedOut)).reportLockout c else t
  ((t.reportHeavyTrip c).reportBridgeTrip c).reevaluate

/-- Channel `c` compared with its threshold at a sense event, by the sample that the event has written into its row (R148, R149): the sample
trips it, or, where it is the driving step bridge, is judged for a jam (R162). A sample that trips the bridge is not judged for a jam,
since the drive has ended (DEDUCED, log entry 21). -/
def State.senseChannel (s : State) (c : Fin 16) : State :=
  let x := s.channel c
  let sample := (s.row c).sensed
  if x.energised = false then s
  else if x.threshold < sample then s.trip c
  else if c = 14 then motionEvent (fun t => t.stepSample sample x.inrush.isSome) s
  else s

/-! ### Timers of one channel -/

/-- The retry timer of channel `c` expires (R150). -/
def State.retryChannel (s : State) (c : Fin 16) : State := (s.setChannel c (s.channel c).retryNow).reevaluate

/-- The motion controller receives the start of a drive (R158). -/
def State.driveStarted (s : State) (b : Bridge) : Direction → State
  | .none => s
  | d => match b with
    | .step => s.stepStarted d
    | .awning => s.awningStarted d

/-- The dead timer of a bridge expires: it drives in the pending direction or stops, and the motion controller is told (R153). -/
def State.deadExpiry (s : State) (b : Bridge) : State :=
  let c := bridgeChannel b
  let d := (s.channel c).pendingDir
  motionEvent (fun t => (t.setChannel c (t.channel c).deadNow).driveStarted b d) s

/-! ### Descriptor commits (R140) -/

/-- The notice and the report of a change of kind that takes channel `c` out of LOCKED_OUT (R140, R152, R175). -/
def State.reportUnlocked (s : State) (c : Fin 16) (former : ChannelState) : State :=
  if former = .lockedOut then
    let t := s.postAll (channelNotice c .lockedOut (s.channel c).state)
    if t.frostWatches c then t.frostJudgement else t
  else s

/-- A change of kind of channel `c` (R140): the run that it carries ends (R136) and its row holds no entry. -/
def State.changeKind (s : State) (c : Fin 16) (d : ChannelDescriptor) : State :=
  let x := s.channel c
  let t := (s.setChannel c (x.describe d)).reportUnlocked c x.state
  let t := if t.runsOn c then t.endRunAs .waiting .none else t
  t.setRow c { t.row c with entry := none, level := 0 }

/-- A descriptor of the same kind (R140): a run on channel `c` takes the new nominal current as its need (R136). -/
def State.keepKind (s : State) (c : Fin 16) (d : ChannelDescriptor) : State :=
  let t := s.setChannel c ((s.channel c).describe d)
  t.setBudget { t.budget with run := t.budget.run.map fun r => if r.channel = c then { r with need := d.nominal } else r }

/-- A taken commit of a channel descriptor (R140), at which the allocator makes a steady re-evaluation. -/
def State.takeChannel (s : State) (c : Fin 16) (d : ChannelDescriptor) : State :=
  (if (s.channel c).desc.kind = d.kind then s.keepKind c d else s.changeKind c d).reevaluateFrom s.entries .none

/-! ### The commands -/

/-- RAMP_EVENT (R146). The ramp timer runs without pause. -/
def execRampEvent (s : State) : Host.Outcome State Fault Refusal :=
  .next { s.mapChannels Channel.ramp with bank := { s.bank with ramp := Config.rampMs } }

/-- PULSE_PERIOD_END (R147). Pulse periods follow one another without pause. -/
def execPulsePeriodEnd (s : State) : Host.Outcome State Fault Refusal :=
  .next { s.mapChannels Channel.pulseEnd with bank := { s.bank with pulse := Config.pulseMs } }

/-- SENSE_EVENT (R148, R149): the samples are written, and the channels are then compared in ascending order. -/
def execSenseEvent (samples : List Nat) (s : State) : Host.Outcome State Fault Refusal :=
  .next (forEach (fun c t => t.senseChannel c) (s.writeSamples samples))

/-- INRUSH_WINDOW_CLOSE (R148). -/
def execInrushWindowClose (c : Fin 16) (s : State) : Host.Outcome State Fault Refusal :=
  .next (s.setChannel c { s.channel c with inrush := none })

/-- RETRY_EXPIRY (R150), where the channel is TRIPPED with its retry timer running. -/
def execRetryExpiry (c : Fin 16) (s : State) : Host.Outcome State Fault Refusal :=
  if (s.channel c).state = .tripped ∧ (s.channel c).retryTimer.isSome then .next (s.retryChannel c) else .next s

/-- CLEAN_TIME_REACHED (R151), where the channel is energised, so that its clean time counts. -/
def execCleanTimeReached (c : Fin 16) (s : State) : Host.Outcome State Fault Refusal :=
  let x := s.channel c
  if x.energised then .next (s.setChannel c { x with tripCount := 0, cleanTime := 0 }) else .next s

/-- DEAD_TIMER_EXPIRY (R153), where the bridge is in DEAD. -/
def execDeadTimerExpiry (b : Bridge) (s : State) : Host.Outcome State Fault Refusal :=
  if (s.channel (bridgeChannel b)).state = .dead then .next (s.deadExpiry b) else .next s

end Sys2Proof.Machine
end

