-- ==== Sys2Proof/Machine/Motion.lean ====
section
/-! DEFINITION. The events of the motion controller and of the frost controller (Chapters 9 and 10): switch changes, hall pulses, motion
timers, the wind hold, the drain timer and the commit of the motion parameters; and the commands STEP_IN_SWITCH_CHANGE to
DRAIN_TIMER_EXPIRY. A timer's expiry acts only while that timer runs (R166: a timer that was stopped does not expire). -/

namespace Sys2Proof.Machine

open Sys2Proof

/-- The switch inputs take these levels (2.4). -/
def State.setSwitches (s : State) (x : Switches) : State := { s with switches := x }

/-- A step switch has changed its level (R160). -/
def State.stepSwitched (s : State) (inSwitch active : Bool) : State :=
  if active then s.stepActivated inSwitch else s.stepDeactivated

/-- The awning target under a new Pmax (R155). -/
def AwningTarget.within (pmax : Nat) : AwningTarget → AwningTarget
  | .count t => .count (min t pmax)
  | .home => .home

/-- A taken commit of the motion parameters (R155), at which the allocator is informed of a change of verdict (R168). A last drift count above
the new Pmax is kept as it was written (DESIGN CHOICE, log entry 39). An active wind hold is kept with its timer where the WIND designation
becomes NONE, as R155 says of every change of designation, although R167 has the hold clear with NONE (DESIGN CHOICE, log entry 45). -/
def State.takeMotionParams (s : State) (p : MotionParams) : State :=
  motionEvent
    (fun t =>
      let m := t.awning
      { t with
        motionParams := p
        awning := { m with count := min m.count p.pmax, target := m.target.map (AwningTarget.within p.pmax) }
        wind := if p.wind = t.motionParams.wind then t.wind else { t.wind with runCount := 0 } })
    s

/-! ### The commands -/

/-- STEP_IN_SWITCH_CHANGE (R160): a change of level of the step in-switch. -/
def execStepInSwitchChange (active : Bool) (s : State) : Host.Outcome State Fault Refusal :=
  if s.switches.stepIn = active then .next s
  else .next (motionEvent (fun t => (t.setSwitches { t.switches with stepIn := active }).stepSwitched true active) s)

/-- STEP_OUT_SWITCH_CHANGE (R160): a change of level of the step out-switch. -/
def execStepOutSwitchChange (active : Bool) (s : State) : Host.Outcome State Fault Refusal :=
  if s.switches.stepOut = active then .next s
  else .next (motionEvent (fun t => (t.setSwitches { t.switches with stepOut := active }).stepSwitched false active) s)

/-- AWNING_IN_SWITCH_CHANGE (R165): a change of level of the awning in-switch. -/
def execAwningInSwitchChange (active : Bool) (s : State) : Host.Outcome State Fault Refusal :=
  if s.switches.awningIn = active then .next s
  else
    .next
      (motionEvent
        (fun t =>
          let u := t.setSwitches { t.switches with awningIn := active }
          if active then u.awningActivated else u.awningDeactivated)
        s)

/-- AWNING_HALL_PULSE (R163, R165, R166). -/
def execAwningHallPulse (s : State) : Host.Outcome State Fault Refusal := .next (motionEvent State.awningPulse s)

/-- STEP_TRAVEL_TIMER_EXPIRY (R161). -/
def execStepTravelTimerExpiry (s : State) : Host.Outcome State Fault Refusal :=
  if s.step.travelTimer.isSome then .next (motionEvent State.stepTimeout s) else .next s

/-- STEP_JAM_RETRY_EXPIRY (R162). -/
def execStepJamRetryExpiry (s : State) : Host.Outcome State Fault Refusal :=
  if s.step.retryTimer.isSome then .next (motionEvent State.stepRetry s) else .next s

/-- AWNING_STALL_TIMER_EXPIRY (R166). -/
def execAwningStallTimerExpiry (s : State) : Host.Outcome State Fault Refusal :=
  if s.awning.stallTimer.isSome then .next (motionEvent State.awningStall s) else .next s

/-- AWNING_TRAVEL_TIMER_EXPIRY (R166). -/
def execAwningTravelTimerExpiry (s : State) : Host.Outcome State Fault Refusal :=
  if s.awning.travelTimer.isSome then .next (motionEvent State.awningTimeout s) else .next s

/-- AWNING_STALL_RETRY_EXPIRY (R166). -/
def execAwningStallRetryExpiry (s : State) : Host.Outcome State Fault Refusal :=
  if s.awning.retryTimer.isSome then .next (motionEvent State.awningRetry s) else .next s

/-- WIND_HOLD_EXPIRY (R167). -/
def execWindHoldExpiry (s : State) : Host.Outcome State Fault Refusal :=
  if s.windHold then .next (motionEvent State.windClear s) else .next s

/-- DRAIN_TIMER_EXPIRY (R178). -/
def execDrainTimerExpiry (s : State) : Host.Outcome State Fault Refusal :=
  if s.frost.drainTimer.isSome then .next s.drainNow else .next s

end Sys2Proof.Machine
end

