-- ==== Sys2Proof/Machine/ModeControl.lean ====
section
/-! DEFINITION. The mode controller (Chapter 2): changes of mode, mode requests, the vehicle record and its timer, and RESTART; and the
command VEHICLE_TIMER_EXPIRY. -/

namespace Sys2Proof.Machine

open Sys2Proof

/-! ### Notices -/

/-- A MODE notice (R31). -/
def modeNotice (former new : Mode) : Notice := { kind := .mode, subject := 115, value := pairValue former.code new.code }

/-- A VEHICLE notice: 1 when vehicle stale is set and 0 when it is cleared (R36, R37). -/
def vehicleNotice (stale : Bool) : Notice := { kind := .vehicle, subject := 116, value := flagCode stale }

/-! ### What the motion controller does at a change of mode (R169) -/

/-- Into TRAVEL: an EXTENDED step becomes HALTED, and entry 2 is armed if the step is not RETRACTED. -/
def State.enterTravel (s : State) : State := (if s.step.state = .extended then s.stepTo .halted else s).armStep

/-- Out of TRAVEL: a step that stands HALTED with no operation is resolved from its switches. -/
def State.leaveTravel (s : State) : State :=
  if s.step.state = .halted ∧ s.step.operation.isNone then s.stepResolve else s

/-- Out of SETUP: entry 3 is armed if the awning is not RETRACTED and the wind hold is active or the wind UNKNOWN. -/
def State.leaveSetup (s : State) : State := if s.windHold ∨ s.windKnown = .unknown then s.armAwning else s

/-- A taken vehicle commit shows moving YES in a mode other than SETUP: both forced retracts are armed as needed. -/
def State.armForMoving (s : State) (moving : Bool) : State :=
  if moving ∧ s.mode ≠ .setup then s.armStep.armAwning else s

/-- The motion controller at a change of mode from `former` to the present mode, with `moving` YES where a vehicle commit that shows it
caused the change (R169). -/
def State.modeMotion (s : State) (former : Mode) (moving : Bool) : State :=
  let t := if s.mode = .travel ∧ former ≠ .travel then s.enterTravel else s
  let t := if former = .travel ∧ s.mode ≠ .travel then t.leaveTravel else t
  let t := if former = .setup ∧ s.mode ≠ .setup then t.leaveSetup else t
  t.armForMoving moving

/-- The measurement records at a change of mode (R69, R70). -/
def State.modeFilters (s : State) (former : Mode) : State :=
  if s.mode = .travel ∧ former ≠ .travel then s.seedFilters
  else if former = .travel ∧ s.mode ≠ .travel then s.dropFilters
  else s

/-- The mode is written. -/
def State.writeMode (s : State) (m : Mode) : State := s.setModeCtl { s.modeCtl with mode := m }

/-- A change of mode (R31): the MODE notice, the motion controller with its notices, the measurement records, where the frost controller
judges a changed fresh level, and last the grant allocator, which recomputes the budget and re-evaluates once. The order of these
blocks is the model's (DEDUCED, log entry 24). -/
def State.changeMode (s : State) (new : Mode) (moving : Bool) : State :=
  let former := s.mode
  let t := (s.writeMode new).postAll (modeNotice former new)
  ((motionWork (fun u => u.modeMotion former moving) t).modeFilters former).rebudget

/-! ### Mode requests (2.3) -/

/-- What the mode controller makes of a request at step 6: refused with a code, or taken with the mode to follow and the outcome. -/
inductive RequestJudgement where
  | refused (r : Result)
  | taken (mode : Mode) (outcome : RequestOutcome)
  deriving DecidableEq, Repr

/-- A request judged against the mode at the completion (table of 2.3). -/
def State.judgeRequest (s : State) (role : Role) (r : ModeRequest) : RequestJudgement :=
  match r with
  | .restart => .taken .setup .restarted
  | .parked =>
    match s.mode with
    | .setup =>
      if role ≠ .panel then .refused .notPermitted
      else if s.modeCtl.configured = false then .refused .notConfigured
      else if s.modeCtl.ignition ∨ s.modeCtl.moving then .taken .travel .diverted
      else .taken .parked .changed
    | .parked => .taken .parked .unchanged
    | .storage => .taken .parked .changed
    | .travel => .refused .wrongMode
  | .storage =>
    match s.mode with
    | .parked => .taken .storage .changed
    | .storage => .taken .storage .unchanged
    | .setup | .travel => .refused .wrongMode
  | .none => .refused .badField

/-- A taken request written into the mode record (R30). -/
def State.recordRequest (s : State) (p : PortId) (r : ModeRequest) (o : RequestOutcome) : State :=
  s.setModeCtl { s.modeCtl with requested := r, lastRequest := r, lastPort := some p, lastOutcome := o }

/-! ### RESTART (2.5) -/

/-- An entry that RESTART frees: every client entry, and internal entries 2 and 3 (R39). -/
def restartFrees (i : Fin 48) : Bool := 2 ≤ i.1

/-- The entries that RESTART frees (R39); their notices follow with those of the re-evaluation. -/
def State.restartEntries (s : State) : State :=
  forEach (fun i t => if restartFrees i ∧ (t.entry i).state ≠ .free then t.freeEntry i else t) s

/-- The slot scheduler at a RESTART: the run is stopped, entry 0 becoming WAITING if it held it, and the decision cleared (R138). -/
def State.restartSlots (s : State) : State :=
  let t := s.endRunAs .waiting .none
  t.setSched { t.sched with decision := none }

/-- The motion controller at a RESTART: both bridges are stopped, both machines and the wind as after a reset, with the last drift count
kept (R172). -/
def State.restartMotion (s : State) : State :=
  let t := s.setChannel 14 (s.channel 14).stopCommand
  let t := t.setChannel 15 (t.channel 15).stopCommand
  let t :=
    { t with
      step := resetStep t.switches
      awning := resetAwning t.switches t.motionParams.pmax t.awning.lastDrift
      wind := resetWind }
  t.noticeReadiness s.ready

/-- The output channel bank at a RESTART: every lockout is cleared (R154), with its report to the frost controller (R175). No rule gives the order
of several, and so of their CHANNEL notices: ascending channel number is the model's (DESIGN CHOICE, log entry 14). TRIPPED channels keep
their running retry timers, as R154 says, where R39 lists the retry timer of a freed channel among what ends (DESIGN CHOICE, log entry 33). -/
def State.restartBank (s : State) : State := forEach (fun c t => t.clearLockoutReported c) s

/-- A RESTART after its request is recorded (R38, R39). The notices stand in this order: MODE, READINESS, CHANNEL of each lockout cleared
with the FROST notice that it calls for, and then the ENTRY notices of the entries that the RESTART freed and the re-evaluation changed
(R105, R152; the place of READINESS is DEDUCED, log entry 14). A RESTART out of TRAVEL is a change of mode, so the filtered values leave
TRAVEL as R70 says, and the frost controller judges a fresh level that this changes: it may go from DUMPING to DRAINED and stop the drain
timer, although R40 and R182 keep both (DEDUCED, log entry 35). -/
def State.restart (s : State) : State :=
  let former := s.mode
  let t := (s.writeMode .setup).postAll (modeNotice former .setup)
  let t := t.restartEntries.restartSlots.restartMotion.restartBank
  (t.modeFilters former).recomputeBudget.reevaluateFrom s.entries .none

/-- A taken mode request of port `p` (R30, R38). -/
def State.takeRequest (s : State) (p : PortId) (r : ModeRequest) (m : Mode) (o : RequestOutcome) : State :=
  let t := s.recordRequest p r o
  if o = .restarted then t.restart else if m = s.mode then t else t.changeMode m false

/-! ### The vehicle record (2.4) -/

/-- The mode after a taken vehicle commit (R35). -/
def modeAfterVehicle (m : Mode) (ignition moving : Bool) : Mode :=
  match m with
  | .setup => .setup
  | .parked => if ignition || moving then .travel else .parked
  | .storage => if ignition || moving then .travel else .storage
  | .travel => if ignition || moving then .travel else .parked

/-- A taken vehicle commit (R34, R35, R37). The motion controller is informed of each, and the allocator of what it arms and of a change of
verdict (R169). -/
def State.takeVehicle (s : State) (ignition moving : Bool) : State :=
  let t :=
    s.setModeCtl
      { s.modeCtl with ignition := ignition, moving := moving, stale := false, vehicleTimer := some Config.vehicleTimerMs }
  let t := if s.modeCtl.stale then t.postAll (vehicleNotice false) else t
  let m := modeAfterVehicle s.mode ignition moving
  if m = s.mode then
    let u := motionWork (fun v => v.armForMoving moving) t
    if s.informsAllocator u then u.reevaluate else u
  else t.changeMode m moving

/-- The vehicle timer expires (R36). -/
def State.vehicleExpiry (s : State) : State :=
  let t := s.setModeCtl { s.modeCtl with vehicleTimer := none }
  if t.modeCtl.ignition ∧ t.modeCtl.stale = false then
    (t.setModeCtl { t.modeCtl with stale := true }).postAll (vehicleNotice true)
  else t

/-! ### The command -/

/-- VEHICLE_TIMER_EXPIRY (R36), where the timer runs. -/
def execVehicleTimerExpiry (s : State) : Host.Outcome State Fault Refusal :=
  if s.modeCtl.vehicleTimer.isSome then .next s.vehicleExpiry else .next s

end Sys2Proof.Machine
end

