-- ==== Sys2Proof/Machine/Images.lean ====
section
/-! DEFINITION. The image of every record, as a fetch copies it (R184, tables of 11.5). -/

namespace Sys2Proof.Machine

open Sys2Proof

/-! ### Bytes (Chapter 11) -/

/-- A number in two bytes, high byte first. -/
def word (n : Nat) : List Byte := [byteOf (n / 256), byteOf n]

/-- A number in four bytes, high byte first. -/
def long (n : Nat) : List Byte := word (n / 65536) ++ word n

/-- A signed number in two bytes, in two's complement. -/
def signedWord (v : Int) : List Byte := word (twos16 v)

/-- A flag in one byte. -/
def flag (b : Bool) : Byte := byteOf (flagCode b)

/-- A one-byte number or 255 for NONE (R184). -/
def orNone (n : Option Nat) : Byte := byteOf (n.getD 255)

/-- The record number of a designated measurement record, or 255 for NONE. -/
def designated (k : Option (Fin 24)) : Byte := orNone (k.map measRecord)

/-- The number of a designated channel, or 255 for NONE. -/
def designatedChannel (c : Option (Fin 16)) : Byte := orNone (c.map Fin.val)

/-- An image: the bytes that the record's table gives, with 0 in the positions beyond them (R13, R184). -/
def imageOf (l : List Byte) : Vector Byte 48 := Vector.ofFn fun i => l.getD i.1 0

/-! ### Records 0 to 47 -/

/-- Bytes 2 to 4 of a demand entry image. -/
def Demand.bytes : Demand → List Byte
  | .none => [0, 0, 0]
  | .level l => word l ++ [0]
  | .setpoint t => signedWord t ++ [0]
  | .motion (.position p) => [0, byteOf (MotionValue.position p).code, byteOf p]
  | .motion .extend => [0, byteOf MotionValue.extend.code, 0]
  | .motion .retract => [0, byteOf MotionValue.retract.code, 0]
  | .motion .stop => [0, byteOf MotionValue.stop.code, 0]

/-- A demand entry. -/
def Entry.bytes (e : Entry) : List Byte :=
  let f := e.fields
  [byteOf f.channel.1, byteOf f.demand.code] ++ f.demand.bytes ++ [byteOf f.cls.1, byteOf f.persistence.code]
    ++ word f.holdTime
    ++ [byteOf f.slotFirst, byteOf f.slotSpan, byteOf f.repetition, byteOf f.base, byteOf f.arm.code, byteOf e.state.code
       , byteOf e.reason.code, orNone (e.owner.map portNumber), orNone e.grantedLevel, byteOf e.starvation, flag e.calling]
    ++ word e.runs
    ++ word ((e.holdTimer.map minutesLeft).getD 65535)

/-! ### Records 64 to 87 and 96 to 111 -/

/-- A measurement record, with the unread and lost flags of port `p`. -/
def MeasRecord.bytes (m : MeasRecord) (p : PortId) : List Byte :=
  [byteOf m.desc.address, byteOf m.desc.channel, byteOf m.desc.kind.code, byteOf m.desc.staleLimit]
    ++ signedWord m.value ++ word m.filtered ++ word m.accumulator
    ++ [byteOf m.freshness.code, byteOf m.age, flag (m.unread.get p), flag (m.lost.get p), byteOf m.updates]

/-- A channel descriptor; a stopped retry timer shows 0 ms left. -/
def Channel.bytes (x : Channel) : List Byte :=
  let d := x.desc
  [byteOf d.kind.code, byteOf d.nominal] ++ word d.trip ++ [byteOf d.rampRate] ++ word d.inrushTime
    ++ [byteOf x.state.code, byteOf x.target, byteOf x.present, byteOf x.tripCount]
    ++ word x.cleanTime ++ word (x.retryTimer.getD 0) ++ [flag x.inrush.isSome]

/-! ### Records 112 to 116 -/

/-- The account record. -/
def Account.bytes (a : Account) : List Byte :=
  word a.seed ++ word (a.lastSeed.getD 65535) ++ long a.charge ++ word a.residue ++ word a.factor
    ++ [byteOf (twos16 a.temperature)] ++ long a.effective ++ word a.soc
    ++ [byteOf a.tier.code, flag a.synced, flag a.gap, flag a.hold] ++ long a.tail ++ [byteOf a.lowVoltage] ++ word a.reports

/-- One row of the channel table: the entry in bits 15 to 10, 63 for NONE, and the sensed current in bits 9 to 0 (R184). -/
def ChannelRow.bytes (r : ChannelRow) : List Byte := word (((r.entry.map Fin.val).getD 63) * 1024 + r.sensed)

/-- The budget record. -/
def Budget.bytes (b : Budget) : List Byte :=
  word b.sourceSum ++ word b.allowance ++ word b.budget ++ word b.exemptSum ++ [byteOf b.reserve] ++ word b.steadyTotal
    ++ signedWord b.headroom ++ [orNone (b.run.map fun r => r.entry.1)] ++ word b.evaluations
    ++ b.rows.toList.flatMap ChannelRow.bytes

/-- The battery parameters; an efficiency of 256 is shown as 0 (R183). -/
def BatteryParams.bytes (p : BatteryParams) : List Byte :=
  let allowances := p.allowNormal * 2 ^ 37 + p.allowConserve * 2 ^ 26 + p.allowEssential * 2 ^ 15 + p.allowProtect * 2 ^ 4
  word p.capacityAh ++ [byteOf p.efficiency, byteOf p.derating] ++ word p.fullVoltage ++ word p.tailCurrent ++ word p.tailTime
    ++ word p.protectVoltage ++ [byteOf p.protectCount]
    ++ long (p.t1 * 2 ^ 22 + p.t2 * 2 ^ 12 + p.t3 * 2 ^ 2)
    ++ [byteOf p.hysteresis] ++ long (allowances / 65536) ++ word allowances ++ word p.busLimit ++ word p.maxInterval
    ++ [designated p.current, designated p.voltage, designated p.temperature, designated p.interval]

/-- The mode record. -/
def ModeControl.bytes (m : ModeControl) : List Byte :=
  [ byteOf m.requested.code, byteOf m.mode.code, flag m.batteryCommitted, flag m.shuntBound, flag m.configured, flag m.stale
  , byteOf m.lastRequest.code, orNone (m.lastPort.map portNumber), byteOf m.lastOutcome.code ]

/-- The vehicle record. -/
def ModeControl.vehicleBytes (m : ModeControl) : List Byte := [flag m.ignition, flag m.moving]

/-! ### Records 117 and 118 -/

/-- An operation: its entry, 255 for NONE, and its MOTION value, 0 where there is none. -/
def operationBytes (o : Option Operation) : List Byte :=
  [orNone (o.map fun x => x.entry.1), byteOf ((o.map fun x => x.value.code).getD 0)]

/-- The awning target: 65534 for IN and 65535 for NONE. -/
def AwningTarget.number : Option AwningTarget → Nat
  | some (.count t) => t
  | some .home => 65534
  | none => 65535

/-- The motion record. -/
def State.motionBytes (s : State) : List Byte :=
  let st := s.step
  let aw := s.awning
  [byteOf st.state.code] ++ operationBytes st.operation
    ++ [flag st.autoReturn, byteOf st.timeouts, byteOf st.jamRetry.code, byteOf aw.state.code]
    ++ operationBytes aw.operation ++ word aw.count ++ word (AwningTarget.number aw.target) ++ [byteOf aw.stallRetry.code]
    ++ word aw.lastDrift
    ++ [ byteOf (s.channel 14).pendingDir.code, byteOf (s.channel 15).pendingDir.code, byteOf s.wind.runCount
       , byteOf ((s.wind.holdTimer.map minutesLeft).getD 0), byteOf s.windKnown.code, flag s.stepBlocked, flag s.awningBlocked
       , flag s.ready ]

/-- The motion parameters. -/
def MotionParams.bytes (p : MotionParams) : List Byte :=
  [byteOf p.stepTravelMax] ++ word p.stepJamCurrent ++ [byteOf p.stepJamTime] ++ word p.pmax
    ++ [byteOf p.stallInterval, byteOf p.syncSlack, byteOf p.awningTravelTimeout, designated p.wind] ++ word p.windLimit
    ++ [byteOf p.windCount] ++ word p.gustLimit ++ [byteOf p.windHoldTime]

/-! ### Records 119 to 124 and 128 to 159 -/

/-- The frost record. -/
def FrostControl.bytes (f : FrostControl) : List Byte :=
  [ flag f.requested, byteOf f.state.code, byteOf f.cause.code, byteOf f.heater.code
  , byteOf ((f.drainTimer.map minutesLeft).getD 0) ]

/-- The frost parameters. -/
def FrostParams.bytes (p : FrostParams) : List Byte :=
  [ flag p.enable, designated p.tank, designated p.outside, designated p.fresh, designated p.grey, designatedChannel p.valve
  , designatedChannel p.heater, designatedChannel p.pump ]
    ++ signedWord p.watchTemp ++ signedWord p.holdTemp ++ signedWord p.dumpTemp ++ signedWord p.closeTemp
    ++ [byteOf p.starvationLimit, byteOf p.drainTime, byteOf p.slotFirst, byteOf p.slotSpan] ++ word p.dryLevel
    ++ word p.greyFull

/-- The slot parameters. -/
def Scheduler.bytes (x : Scheduler) : List Byte :=
  [ byteOf x.slotLength, designated x.cabin, byteOf x.slot, byteOf x.cycle
  , byteOf ((x.decision.map fun d => d.verdict.code).getD 0)
  , orNone ((x.decision.bind fun d => d.owner).map Fin.val)
  , byteOf ((x.decision.map fun d => d.reason.code).getD 0) ]

/-- The line parameters. -/
def LineControl.bytes (l : LineControl) : List Byte :=
  [ byteOf l.shuntAddress, flag l.queueEnable, byteOf l.windowLow, byteOf l.windowHigh, byteOf l.shunt.failures
  , byteOf l.shunt.health.code, byteOf l.shunt.lastFault.code, byteOf l.pointer.1 ] ++ word l.periodCount

/-- The head of the reading queue, with the number of readings left after this one; nothing when it is empty (R73). -/
def ReadingQueue.bytes (q : ReadingQueue) : List Byte :=
  if q.fill = 0 then []
  else
    let x := vget q.places q.get
    [byteOf x.reading.address, byteOf x.reading.channel, byteOf x.reading.kind.code] ++ signedWord x.reading.value
      ++ word x.arrival ++ [byteOf (q.fill - 1), flag q.overrun]

/-- A poll entry. -/
def PollEntry.bytes (e : PollEntry) : List Byte :=
  [ byteOf e.address, byteOf e.sender.failures, byteOf e.sender.health.code, byteOf e.skip, byteOf e.sender.lastFault.code ]

/-! ### The store -/

/-- The bytes of a record as port `p` fetches it. -/
def State.recordBytes (s : State) (p : PortId) : RecordId → List Byte
  | .entry i => (s.entry i).bytes
  | .meas k => (s.measRec k).bytes p
  | .channel c => (s.channel c).bytes
  | .account => s.account.bytes
  | .budget => s.budget.bytes
  | .battery => s.battery.bytes
  | .mode => s.modeCtl.bytes
  | .vehicle => s.modeCtl.vehicleBytes
  | .motion => s.motionBytes
  | .motionParams => s.motionParams.bytes
  | .frost => s.frost.bytes
  | .frostParams => s.frostParams.bytes
  | .slots => s.sched.bytes
  | .line => s.line.bytes
  | .queue => s.queue.bytes
  | .poll j => (s.poll j).bytes

end Sys2Proof.Machine
end

