-- ==== Sys2Proof/Machine/Commits.lean ====
section
/-! DEFINITION. The judgement of a commit (R15 to R20) and what a taken commit does (R21): the claims, changes and releases of demand
entries (R99, R101), and each other record's owning block. -/

namespace Sys2Proof.Machine

open Sys2Proof

/-! ### The checks, in the order of R15 -/

/-- The port's role may commit this record and this content (R16). -/
def roleMayCommit (role : Role) (img : Vector Byte 32) : RecordId → Bool
  | .entry i =>
    isClient i
      && match role with
        | .panel => true
        | .vehicle => imageByte img 1 = 0 || (imageByte img 1 = 3 && imageByte img 3 = 1)
        | .remote => imageByte img 1 ≤ 2
        | .disabled => false
  | .mode =>
    match role with
    | .panel => true
    | .remote => imageByte img 0 = 1 || imageByte img 0 = 3
    | .vehicle | .disabled => false
  | .vehicle => role = .vehicle
  | .budget | .motion | .queue => false
  | .meas _ | .channel _ | .account | .battery | .motionParams | .frost | .frostParams | .slots | .line | .poll _ =>
    role = .panel

/-- The mode admits commits to this record (R17). -/
def modeAdmits (m : Mode) : RecordId → Bool
  | .entry _ => m ≠ .setup
  | .meas _ | .channel _ | .battery | .motionParams | .frostParams | .slots | .line => m = .setup
  | .account | .poll _ => m = .setup || m = .parked
  | .mode | .vehicle | .frost | .budget | .motion | .queue => true

/-- The port may write this entry (R18). -/
def State.ownerAdmits (s : State) (p : PortId) (role : Role) (img : Vector Byte 32) : RecordId → Bool
  | .entry i =>
    let e := s.entry i
    e.state = .free || e.owner = some p || (imageByte img 1 = 0 && role = .panel)
  | .meas _ | .channel _ | .account | .budget | .battery | .mode | .vehicle | .motion | .motionParams | .frost
  | .frostParams | .slots | .line | .queue | .poll _ => true

/-- The owning block's own code at step 6, where it refuses the order. -/
def State.blockRefuses (s : State) (role : Role) : CommitOrder → Option Result
  | .mode r =>
    match s.judgeRequest role r with
    | .refused x => some x
    | .taken _ _ => none
  | .valveClose => if s.valveCloseTaken then none else some .tooCold
  | .release _ | .entry _ _ | .meas _ _ | .channel _ _ | .seed _ | .battery _ | .vehicle _ _ | .motionParams _
  | .frostParams _ | .slots _ _ | .line _ _ _ _ | .poll _ _ => none

/-- A commit as judged: refused with a result, or taken with ACCEPTED or CLAMPED and the order it makes. -/
inductive Judgement where
  | refused (r : Result)
  | taken (r : Result) (o : CommitOrder)
  deriving DecidableEq, Repr

/-- The result that a judgement writes into the port status. -/
def Judgement.result : Judgement → Result
  | .refused r => r
  | .taken r _ => r

/-- A commit of port `p` to record number `target` judged against the state that stands at its completion (R15). -/
def State.judge (s : State) (p : PortId) (target : Nat) (img : Vector Byte 32) : Judgement :=
  let role := (s.port p).role
  match recordOf target with
  | none => .refused .badRecord
  | some id =>
    if roleMayCommit role img id = false then .refused .notPermitted
    else if modeAdmits s.mode id = false then .refused .wrongMode
    else if s.ownerAdmits p role img id = false then .refused .notOwner
    else
      match stagedOrder s role img id with
      | none => .refused .badField
      | some o =>
        match s.blockRefuses role o with
        | some r => .refused r
        | none => .taken (if stagedClamped s role img id then .clamped else .accepted) o

/-! ### Demand entries (6.2) -/

/-- The standing of an entry after a taken commit of its fields (R99). One that is not FREE, HELD or DONE keeps its standing, a run or a grant
with it; after an expiry it begins anew in WAITING, although R103 says that the entry is the same in both orders (DESIGN CHOICE, log entry 43). -/
def Entry.afterCommit (e : Entry) (arm : Arm) : Entry :=
  match arm with
  | .held => e.stand .held .none
  | .armed => if e.state = .free ∨ e.state = .held ∨ e.state = .done then e.stand .waiting .none else e

/-- The hold timer that a commit starts: from the hold time of an armed entry, stopped where that is 0 (R102). -/
def startedHold (f : EntryFields) : Timer :=
  match f.arm with
  | .armed => if f.holdTime = 0 then none else some (f.holdTime * Config.minuteMs)
  | .held => none

/-- The entry of port `p` under its committed fields (R18, R99, R102). -/
def Entry.commit (e : Entry) (p : PortId) (f : EntryFields) : Entry :=
  { { e with fields := f, owner := some p }.afterCommit f.arm with holdTimer := startedHold f }

/-- The present run ends at a commit of its entry that makes it HELD or moves it to another channel (R136). -/
def State.endRunForCommit (s : State) (i : Fin 48) (f : EntryFields) : State :=
  if s.holdsRun i ∧ f.arm = .held then s.endRunAs .waiting .none else s.endRunOfMoved i f.channel

/-- A taken commit of client entry `i` by port `p` with a kind other than NONE, up to its re-evaluation (R99, R129, R152). -/
def State.writeEntry (s : State) (p : PortId) (i : Fin 48) (f : EntryFields) : State :=
  let previous := (s.entry i).state ≠ .free && (s.entry i).calling
  let t := s.endRunForCommit i f
  let t := t.setEntry i ((t.entry i).commit p f)
  let t := if f.arm = .armed then t.clearLockoutReported f.channel else t
  t.judgeCalling i previous

/-- A taken commit of client entry `i` by port `p` with a kind other than NONE (R99). -/
def State.takeEntry (s : State) (p : PortId) (i : Fin 48) (f : EntryFields) : State :=
  (s.writeEntry p i f).reevaluateFrom s.entries .none

/-- A taken release of entry `i` by port `p` (R101); a release to a FREE entry changes nothing (R18). -/
def State.takeRelease (s : State) (p : PortId) (i : Fin 48) : State :=
  let e := s.entry i
  if e.state = .free then s
  else (s.freeEntry i).reevaluateFrom s.entries (if e.owner = some p then .none else .cancelled)

/-! ### What a taken commit does (R21) -/

/-- The owning block acts on a taken commit of port `p`. -/
def State.obey (s : State) (p : PortId) : CommitOrder → State
  | .release i => s.takeRelease p i
  | .entry i f => s.takeEntry p i f
  | .meas k d => s.takeMeas k d
  | .channel c d => s.takeChannel c d
  | .seed v => s.takeSeed v
  | .battery q => s.takeBattery q
  | .mode r =>
    match s.judgeRequest (s.port p).role r with
    | .taken m o => s.takeRequest p r m o
    | .refused _ => s
  | .vehicle ignition moving => s.takeVehicle ignition moving
  | .motionParams q => s.takeMotionParams q
  | .valveClose => s.takeValveClose
  | .frostParams q => s.takeFrostParams q
  | .slots length cabin => s.takeSlots length cabin
  | .line shunt enable low high => s.takeLine shunt enable low high
  | .poll j address => s.takePoll j address

/-- A judged commit of port `p`: a refused one leaves the record store unchanged. -/
def State.carryJudgement (s : State) (p : PortId) : Judgement → State
  | .refused _ => s
  | .taken _ o => s.obey p o

end Sys2Proof.Machine
end

