-- ==== Sys2Proof/Machine/Transfer.lean ====
section
/-! DEFINITION. The record transfer engine (1.5): the next request in round-robin order, the completion of a commit and the completion
of a fetch; and the commands TRANSFER_START, COMMIT_COMPLETION and FETCH_COMPLETION. -/

namespace Sys2Proof.Machine

open Sys2Proof

/-- The ports in the order in which the engine looks at them after the one it served last (R14). -/
def searchOrder : PortId → List PortId
  | .cp0 => [.cp1, .cp2, .cp0]
  | .cp1 => [.cp2, .cp0, .cp1]
  | .cp2 => [.cp0, .cp1, .cp2]

/-- The first port in that order with a request waiting (R14). -/
def State.nextPort (s : State) : Option PortId := (searchOrder s.engine.pointer).find? fun p => !(s.port p).requests.isEmpty

/-- The free engine takes the next request, the earlier of the two that a port may have waiting (R14). -/
def State.startTransfer (s : State) : State :=
  match s.engine.transfer, s.nextPort with
  | none, some p =>
    match (s.port p).requests with
    | r :: rest =>
      (s.setPort p { s.port p with requests := rest }).setEngine { transfer := some { port := p, request := r }, pointer := p }
    | [] => s
  | _, _ => s

/-! ### Commit completion -/

/-- The result and target of a judged commit in the port status (R5). -/
def Port.judgedWith (x : Port) (r : Result) (target : Nat) : Port :=
  { x with lastResult := r, lastRecord := target, judged := (x.judged + 1) % 8 }

/-- The halves of the staging pair exchanged. -/
def StagingPair.swap (a : StagingPair) : StagingPair := { a with host := a.shadow, shadow := a.host }

/-- The staging pair at the completion of its commit: IDLE, or BUSY with the remembered commit swapped in and requested (R9). -/
def Port.stagingDone (x : Port) : Port :=
  match x.staging.state, x.staging.remembered with
  | .busyPending, some t =>
    { x with
      staging := { x.staging.swap with state := .busy, remembered := none }
      requests := x.requests ++ [.commit t] }
  | _, _ => { x with staging := { x.staging with state := .idle, remembered := none } }

/-- A port at the completion of its commit to record number `target` (R5, R9). -/
def Port.commitDone (x : Port) (r : Result) (target : Nat) : Port := (x.judgedWith r target).stagingDone

/-- The commit of port `p` to record number `target` completes (R15, R21). -/
def State.completeCommit (s : State) (p : PortId) (target : Nat) : State :=
  let j := s.judge p target (s.port p).staging.shadow
  let t := s.setEngine { s.engine with transfer := none }
  (t.setPort p ((t.port p).commitDone j.result target)).carryJudgement p j

/-! ### Fetch completion -/

/-- What a fetch of record number `r` by port `p` carries (R13): its result and its image. -/
def State.fetched (s : State) (p : PortId) (r : Nat) : FetchResult × Vector Byte 48 :=
  match recordOf r with
  | none => (.badRecord, imageOf [])
  | some .queue => if s.queue.fill = 0 then (.empty, imageOf []) else (.fetched, imageOf (s.recordBytes p .queue))
  | some id => (.fetched, imageOf (s.recordBytes p id))

/-- The record store's part of a fetch (R13): a measurement record's flags of the fetching port are cleared (R65), and the head of the
reading queue is removed (R73). -/
def State.storeFetched (s : State) (p : PortId) (r : Nat) : State :=
  match recordOf r with
  | some (.meas k) =>
    let m := s.measRec k
    s.setMeas k { m with unread := m.unread.set p false, lost := m.lost.set p false }
  | some .queue => { s with queue := s.queue.pop }
  | some (.entry _) | some (.channel _) | some .account | some .budget | some .battery | some .mode | some .vehicle
  | some .motion | some .motionParams | some .frost | some .frostParams | some .slots | some .line | some (.poll _)
  | none => s

/-- The shadow half filled, and the readout pair READY (R13). -/
def Port.fetchDone (x : Port) (r : Nat) (result : FetchResult) (image : Vector Byte 48) : Port :=
  { x with
    readout := { x.readout with state := .ready, shadow := { record := some r, result := result, image := image } } }

/-- The fetch of record number `r` by port `p` completes (R13). -/
def State.completeFetch (s : State) (p : PortId) (r : Nat) : State :=
  let f := s.fetched p r
  let t := s.setEngine { s.engine with transfer := none }
  (t.setPort p ((t.port p).fetchDone r f.1 f.2)).storeFetched p r

/-! ### The commands -/

/-- TRANSFER_START (R14). -/
def execTransferStart (s : State) : Host.Outcome State Fault Refusal := .next s.startTransfer

/-- COMMIT_COMPLETION (R15), where a commit is in progress. -/
def execCommitCompletion (s : State) : Host.Outcome State Fault Refusal :=
  match s.engine.transfer with
  | some { port := p, request := .commit t } => .next (s.completeCommit p t)
  | _ => .next s

/-- FETCH_COMPLETION (R13), where a fetch is in progress. -/
def execFetchCompletion (s : State) : Host.Outcome State Fault Refusal :=
  match s.engine.transfer with
  | some { port := p, request := .fetch r } => .next (s.completeFetch p r)
  | _ => .next s

end Sys2Proof.Machine
end

