-- ==== Sys2Proof/Machine/Ports.lean ====
section
/-! DEFINITION. The client ports (1.2 to 1.4, 1.6): frames and their eight requests; and the commands STATUS to ABORTED_FRAME and
FRAME_OPEN. A request takes effect when its frame closes, on the port alone (R3). -/

namespace Sys2Proof.Machine

open Sys2Proof

/-! ### Frames (1.2) -/

/-- The `n` bytes that a frame shifts out: its status copy, what the request gives, and 0 beyond (R3, R4). -/
def shiftedOut (status : PortStatus) (gives : List Byte) (n : Nat) : List Byte :=
  (status.bytes ++ gives ++ List.replicate n 0).take n

/-- A frame of `n` complete bytes closes: its bytes have been shifted out, COLLIDED and ABORTED are cleared where the status copy
showed them (R6), and its request then takes effect. A frame of no complete byte is ignored (R3). A DISABLED port shifts out zeros and
ignores the frame (R2). With no frame open nothing closes. -/
def Port.close (x : Port) (n : Nat) (gives : List Byte) (request : Frame → Port → Port) : Port :=
  if x.role = .disabled then { x with out := List.replicate n 0 }
  else
    match x.frame with
    | none => x
    | some f =>
      let y := { x with frame := none, out := shiftedOut f.status gives n }
      if n = 0 then y else request f (y.clearShown f.status)

/-- A frame is ignored or discarded (R4). -/
def Port.abort (x : Port) : Port := { x with aborted := true }

/-- A request is refused because its pair is busy (1.2.3). -/
def Port.collide (x : Port) : Port := { x with collided := true }

/-- A frame opens (R3): the port copies its status as it stands. -/
def Port.openFrame (x : Port) : Port :=
  if x.role = .disabled ∨ x.frame.isSome then x else { x with frame := some { status := x.status, notice := none } }

/-! ### The staging pair (1.3) -/

/-- The staging half that a STAGE of `n` bytes writes (R7). -/
def stagedHalf (n : Nat) (bytes : List Byte) : Vector Byte 32 := Vector.ofFn fun i => if i.1 < n then bytes.getD i.1 0 else 0

/-- A STAGE of `n` image bytes that takes effect (R7). -/
def Port.stage (x : Port) (n : Nat) (bytes : List Byte) : Port :=
  match x.staging.state with
  | .idle | .busy => { x with staging := { x.staging with host := stagedHalf n bytes } }
  | .busyPending => x.collide

/-- A STAGE frame closes with these bytes after its code (R4, R7). -/
def Port.stageFrame (x : Port) (body : List Byte) : Port :=
  match body with
  | [] => x.abort
  | len :: bytes =>
    if len.toNat = 0 ∨ 32 < len.toNat ∨ bytes.length < len.toNat then x.abort else x.stage len.toNat bytes

/-- A COMMIT to record number `t` that takes effect (R8). -/
def Port.commit (x : Port) (t : Nat) : Port :=
  match x.staging.state with
  | .idle => { x with staging := { x.staging.swap with state := .busy }, requests := x.requests ++ [.commit t] }
  | .busy => { x with staging := { x.staging with state := .busyPending, remembered := some t } }
  | .busyPending => x.collide

/-- A request that needs a record number takes effect, or is discarded as short (R4). -/
def Port.withRecord (x : Port) (body : List Byte) (request : Port → Nat → Port) : Port :=
  match body with
  | [] => x.abort
  | r :: _ => request x r.toNat

/-! ### The readout pair (1.4) -/

/-- The halves of the readout pair exchanged. -/
def ReadoutPair.swap (a : ReadoutPair) : ReadoutPair := { a with host := a.shadow, shadow := a.host }

/-- A fetch of record number `r` is requested (R10). -/
def Port.requestFetch (x : Port) (r : Nat) : Port :=
  { x with readout := { x.readout with state := .busy }, requests := x.requests ++ [.fetch r] }

/-- A FETCH of record number `r` that takes effect (R10). -/
def Port.fetch (x : Port) (r : Nat) : Port :=
  match x.readout.state with
  | .idle | .ready => x.requestFetch r
  | .busy => x.collide

/-- A VIEW that takes effect (R11). -/
def Port.view (x : Port) : Port :=
  match x.readout.state with
  | .idle | .ready => { x with readout := { x.readout.swap with state := .idle } }
  | .busy => x.collide

/-- A FETCH_VIEW of record number `r` that takes effect (R10). -/
def Port.fetchView (x : Port) (r : Nat) : Port :=
  match x.readout.state with
  | .idle | .ready => { x with readout := x.readout.swap }.requestFetch r
  | .busy => x.collide

/-- What a READ frame shifts out after the status (R12). -/
def ReadoutHalf.bytes (h : ReadoutHalf) : List Byte := [orNone h.record, byteOf h.result.code] ++ h.image.toList

/-! ### The notice queue (1.6) -/

/-- The copy that a NOTICE frame takes of the oldest notice (R24). -/
def Port.copyNotice (x : Port) : NoticeCopy := { copy := x.notices.head?, stillOldest := !x.notices.isEmpty }

/-- The code of a NOTICE frame has been received: the copy is taken (R24). -/
def Port.receiveNoticeCode (x : Port) : Port :=
  match x.frame with
  | some f => if f.notice.isSome then x else { x with frame := some { f with notice := some x.copyNotice } }
  | none => x

/-- What a NOTICE frame shifts out after the status (R24). -/
def NoticeCopy.bytes (c : NoticeCopy) : List Byte :=
  match c.copy with
  | some n => [byteOf n.kind.code, byteOf n.subject] ++ word n.value
  | none => [byteOf NoticeKind.none.code, 0, 0, 0]

/-- The copy of the open NOTICE frame. -/
def Port.noticeCopy (x : Port) : NoticeCopy :=
  match x.frame with
  | some f => f.notice.getD x.copyNotice
  | none => x.copyNotice

/-- A complete NOTICE frame closes: the copied notice is removed if it is still the oldest (R24), and the overrun flag is cleared if the
status copy showed it set (R23). -/
def Port.takeNotice (x : Port) (copy : NoticeCopy) (status : PortStatus) : Port :=
  { x with
    notices := if copy.copy.isSome ∧ copy.stillOldest then x.notices.drop 1 else x.notices
    overrun := x.overrun && !status.overrun }

/-- A NOTICE frame of `n` bytes closes (R4, R24). -/
def Port.noticeFrame (x : Port) (n : Nat) : Port :=
  let copy := x.noticeCopy
  x.close n copy.bytes fun f y => if n < 8 then y.abort else y.takeNotice copy f.status

/-! ### The commands -/

/-- STATUS (R6). -/
def execStatus (p : PortId) (n : Nat) (s : State) : Host.Outcome State Fault Refusal :=
  .next (s.setPort p ((s.port p).close n [] fun _ y => y))

/-- STAGE (R7). -/
def execStage (p : PortId) (body : List Byte) (s : State) : Host.Outcome State Fault Refusal :=
  .next (s.setPort p ((s.port p).close (body.length + 1) [] fun _ y => y.stageFrame body))

/-- COMMIT (R8). -/
def execCommit (p : PortId) (body : List Byte) (s : State) : Host.Outcome State Fault Refusal :=
  .next (s.setPort p ((s.port p).close (body.length + 1) [] fun _ y => y.withRecord body Port.commit))

/-- FETCH (R10). -/
def execFetch (p : PortId) (body : List Byte) (s : State) : Host.Outcome State Fault Refusal :=
  .next (s.setPort p ((s.port p).close (body.length + 1) [] fun _ y => y.withRecord body Port.fetch))

/-- VIEW (R11). -/
def execView (p : PortId) (n : Nat) (s : State) : Host.Outcome State Fault Refusal :=
  .next (s.setPort p ((s.port p).close n [] fun _ y => y.view))

/-- FETCH_VIEW (R10). -/
def execFetchView (p : PortId) (body : List Byte) (s : State) : Host.Outcome State Fault Refusal :=
  .next (s.setPort p ((s.port p).close (body.length + 1) [] fun _ y => y.withRecord body Port.fetchView))

/-- READ (R12): the readout host half is shifted out, and no state of the pair changes. -/
def execRead (p : PortId) (n : Nat) (s : State) : Host.Outcome State Fault Refusal :=
  .next (s.setPort p ((s.port p).close n (s.port p).readout.host.bytes fun _ y => y))

/-- NOTICE (R24). -/
def execNotice (p : PortId) (phase : NoticePhase) (s : State) : Host.Outcome State Fault Refusal :=
  match phase with
  | .codeReceived => .next (s.setPort p (s.port p).receiveNoticeCode)
  | .closed n => .next (s.setPort p ((s.port p).noticeFrame n))

/-- ABORTED_FRAME (R4): an unknown code sets ABORTED; a frame of no complete byte is ignored (R3). -/
def execAbortedFrame (p : PortId) (bytes : List Byte) (s : State) : Host.Outcome State Fault Refusal :=
  .next (s.setPort p ((s.port p).close bytes.length [] fun _ y => y.abort))

/-- FRAME_OPEN (R3). -/
def execFrameOpen (p : PortId) (s : State) : Host.Outcome State Fault Refusal :=
  .next (s.setPort p (s.port p).openFrame)

end Sys2Proof.Machine
end

