-- ==== Sys2Proof/Machine/Power.lean ====
section
/-! DEFINITION. The command POWER_ON_RESET (R25 and the reset rules of every chapter). -/

namespace Sys2Proof.Machine

open Sys2Proof

/-- POWER_ON_RESET (R1, R25, R27, R58, R59, R71, R75, R96, R107, R124, R125, R138, R139, R154, R172, R182): every block takes its
starting values, the roles are read from the straps and the step and awning resolved from their switches. The commands that wait are not
state of the part and stay waiting. -/
def execPowerOnReset (straps : Straps) (switches : Switches) (s : State) : Host.Outcome State Fault Refusal :=
  .next (State.powerOn straps switches s.pending)

end Sys2Proof.Machine
end

