-- ==== Sys2Proof/Machine/Clock.lean ====
section
/-! DEFINITION. The part's own time (4.5): one millisecond of every timer, and the event that is due. This is what the block does while no
command waits (DESIGN CHOICE, log entry 2). -/

namespace Sys2Proof.Machine

open Sys2Proof

/-- A running timer has one ms less left. -/
def Timer.tick (t : Timer) : Timer := t.map (· - 1)

/-- A running timer has no time left. -/
def Timer.over (t : Timer) : Bool := t.any (· = 0)

/-- One ms at a channel: its timers, and its clean time while it is energised (R148, R150, R151, R153). -/
def Channel.tick (x : Channel) : Channel :=
  { x with
    retryTimer := Timer.tick x.retryTimer
    inrush := Timer.tick x.inrush
    deadTimer := Timer.tick x.deadTimer
    cleanTime := if x.energised then min Config.cleanMs (x.cleanTime + 1) else x.cleanTime }

/-- One ms on the sender line (R42, R44, R50). -/
def LineControl.tick (l : LineControl) : LineControl :=
  { l with
    pollTimer := l.pollTimer - 1
    quiet := l.quiet - 1
    windowTimer := Timer.tick l.windowTimer
    gapTimer := Timer.tick l.gapTimer }

/-- One ms passes at every timer of the part. -/
def State.advance (s : State) : State :=
  { s with
    modeCtl := { s.modeCtl with vehicleTimer := Timer.tick s.modeCtl.vehicleTimer }
    line := s.line.tick
    entries := s.entries.map fun e => { e with holdTimer := Timer.tick e.holdTimer }
    sched := { s.sched with slotTimer := s.sched.slotTimer - 1 }
    channels := s.channels.map Channel.tick
    bank := { ramp := s.bank.ramp - 1, pulse := s.bank.pulse - 1 }
    step := { s.step with travelTimer := Timer.tick s.step.travelTimer, retryTimer := Timer.tick s.step.retryTimer }
    awning :=
      { s.awning with
        stallTimer := Timer.tick s.awning.stallTimer
        travelTimer := Timer.tick s.awning.travelTimer
        retryTimer := Timer.tick s.awning.retryTimer }
    wind := { s.wind with holdTimer := Timer.tick s.wind.holdTimer }
    frost := { s.frost with drainTimer := Timer.tick s.frost.drainTimer } }

/-- An event, where it is due. -/
def whenDue (due : Bool) (c : Instr) : List Instr := if due then [c] else []

/-- What is due at channel `c`. -/
def State.channelDue (s : State) (c : Fin 16) : List Instr :=
  let x := s.channel c
  [ whenDue (x.state = .tripped && Timer.over x.retryTimer) (.retryExpiry c)
  , whenDue (Timer.over x.inrush) (.inrushWindowClose c)
  , whenDue (x.energised && Config.cleanMs ≤ x.cleanTime) (.cleanTimeReached c)
  , whenDue (x.state = .dead && Timer.over x.deadTimer) (.deadTimerExpiry (if c = 15 then .awning else .step)) ].flatten

/-- The engine is free and a request waits (R14). -/
def State.transferDue (s : State) : Bool := s.engine.transfer.isNone && s.nextPort.isSome

/-- A list poll may be made in this period (R45, R46). -/
def State.listPollDue (s : State) : Bool :=
  s.line.mayPoll && !s.line.shuntDue && 0 < s.line.listAllowed && s.line.considered < Config.considerationsPerPeriod

/-- Every event that the part itself makes due, in the order in which they are taken where several are due together (the manual gives no
order: DESIGN CHOICE, log entry 2). -/
def State.dueEvents (s : State) : List Instr :=
  [ whenDue (Timer.over s.modeCtl.vehicleTimer) .vehicleTimerExpiry
  , whenDue (s.line.pollTimer = 0) .pollPeriodStart
  , whenDue (Timer.over s.line.windowTimer) .responseWindowExpiry
  , whenDue (Timer.over s.line.gapTimer) .gapExpiry
  , (indexes 16).flatMap s.channelDue
  , whenDue (s.bank.ramp = 0) .rampEvent
  , whenDue (s.bank.pulse = 0) .pulsePeriodEnd
  , (indexes 48).flatMap fun i => whenDue (Timer.over (s.entry i).holdTimer) (.holdTimerExpiry i)
  , whenDue (Timer.over s.step.travelTimer) .stepTravelTimerExpiry
  , whenDue (Timer.over s.step.retryTimer) .stepJamRetryExpiry
  , whenDue (Timer.over s.awning.stallTimer) .awningStallTimerExpiry
  , whenDue (Timer.over s.awning.travelTimer) .awningTravelTimerExpiry
  , whenDue (Timer.over s.awning.retryTimer) .awningStallRetryExpiry
  , whenDue (Timer.over s.wind.holdTimer) .windHoldExpiry
  , whenDue (Timer.over s.frost.drainTimer) .drainTimerExpiry
  , whenDue (s.sched.slotTimer = 0) .slotBoundary
  , whenDue (s.line.mayPoll && s.line.shuntDue) .shuntPoll
  , whenDue s.listPollDue .listPoll
  , whenDue s.transferDue .transferStart ].flatten

end Sys2Proof.Machine
end

