-- ==== Sys2Proof/Machine/Dispatch.lean ====
section
/-! DEFINITION. The meaning of each command: one arm per constructor of `Instr`, each a direct call of its own definition. -/
namespace Sys2Proof.Machine
open Sys2Proof

def exec (i : Instr) (s : State) : Host.Outcome State Fault Refusal :=
  match i with
  | .status p n => Sys2Proof.Machine.execStatus p n s
  | .stage p body => Sys2Proof.Machine.execStage p body s
  | .commit p body => Sys2Proof.Machine.execCommit p body s
  | .fetch p body => Sys2Proof.Machine.execFetch p body s
  | .view p n => Sys2Proof.Machine.execView p n s
  | .fetchView p body => Sys2Proof.Machine.execFetchView p body s
  | .read p n => Sys2Proof.Machine.execRead p n s
  | .notice p phase => Sys2Proof.Machine.execNotice p phase s
  | .abortedFrame p bytes => Sys2Proof.Machine.execAbortedFrame p bytes s
  | .transferStart => Sys2Proof.Machine.execTransferStart s
  | .commitCompletion => Sys2Proof.Machine.execCommitCompletion s
  | .fetchCompletion => Sys2Proof.Machine.execFetchCompletion s
  | .powerOnReset straps switches => Sys2Proof.Machine.execPowerOnReset straps switches s
  | .vehicleTimerExpiry => Sys2Proof.Machine.execVehicleTimerExpiry s
  | .pollPeriodStart => Sys2Proof.Machine.execPollPeriodStart s
  | .shuntPoll => Sys2Proof.Machine.execShuntPoll s
  | .listPoll => Sys2Proof.Machine.execListPoll s
  | .responseCharacter c => Sys2Proof.Machine.execResponseCharacter c s
  | .responseWindowExpiry => Sys2Proof.Machine.execResponseWindowExpiry s
  | .gapExpiry => Sys2Proof.Machine.execGapExpiry s
  | .strayCharacter c => Sys2Proof.Machine.execStrayCharacter c s
  | .holdTimerExpiry e => Sys2Proof.Machine.execHoldTimerExpiry e s
  | .slotBoundary => Sys2Proof.Machine.execSlotBoundary s
  | .rampEvent => Sys2Proof.Machine.execRampEvent s
  | .pulsePeriodEnd => Sys2Proof.Machine.execPulsePeriodEnd s
  | .senseEvent samples => Sys2Proof.Machine.execSenseEvent samples s
  | .inrushWindowClose c => Sys2Proof.Machine.execInrushWindowClose c s
  | .retryExpiry c => Sys2Proof.Machine.execRetryExpiry c s
  | .cleanTimeReached c => Sys2Proof.Machine.execCleanTimeReached c s
  | .deadTimerExpiry b => Sys2Proof.Machine.execDeadTimerExpiry b s
  | .stepInSwitchChange active => Sys2Proof.Machine.execStepInSwitchChange active s
  | .stepOutSwitchChange active => Sys2Proof.Machine.execStepOutSwitchChange active s
  | .awningInSwitchChange active => Sys2Proof.Machine.execAwningInSwitchChange active s
  | .awningHallPulse => Sys2Proof.Machine.execAwningHallPulse s
  | .stepTravelTimerExpiry => Sys2Proof.Machine.execStepTravelTimerExpiry s
  | .stepJamRetryExpiry => Sys2Proof.Machine.execStepJamRetryExpiry s
  | .awningStallTimerExpiry => Sys2Proof.Machine.execAwningStallTimerExpiry s
  | .awningTravelTimerExpiry => Sys2Proof.Machine.execAwningTravelTimerExpiry s
  | .awningStallRetryExpiry => Sys2Proof.Machine.execAwningStallRetryExpiry s
  | .windHoldExpiry => Sys2Proof.Machine.execWindHoldExpiry s
  | .drainTimerExpiry => Sys2Proof.Machine.execDrainTimerExpiry s
  | .frameOpen p => Sys2Proof.Machine.execFrameOpen p s

end Sys2Proof.Machine
end

