-- ==== Sys2Proof/Machine/Step.lean ====
section
/-! DEFINITION. The step of the block and the host's way of putting a command in front of it. -/

namespace Sys2Proof.Machine

open Sys2Proof

/-- One step. A waiting command is taken from the front of the queue and carried out with the rest of the queue. With no command waiting,
a re-evaluation that is still owed is made; otherwise the first event that the part itself has made due is carried out; otherwise one
millisecond passes (DESIGN CHOICE, log entry 2). -/
def step (s : State) : Host.Outcome State Fault Refusal :=
  match s.pending with
  | c :: rest => exec c { s with pending := rest }
  | [] =>
    if s.owed then .next s.reevaluate
    else
      match s.dueEvents with
      | c :: _ => exec c s
      | [] => .next s.advance

/-- The state with the command that a word spells put at the front of its queue; unchanged where the word spells none. No row of the
opcode table gives its command bits, so no word spells one. -/
def State.withFetchWord (s : State) (nbits w : Nat) : State :=
  match Sys2Proof.decodeTableWord nbits w with
  | some c => { s with pending := c :: s.pending }
  | none => s

end Sys2Proof.Machine
end

