-- ==== Sys2Proof/Safety.lean ====
section
/-! DEFINITION. What counts as a safe state: the laws that the manual names as laws of the part, and the bounds that its records keep;
what the close of any frame leaves of its port; the checks of a commit in their order; and what an event leaves untouched, and the notices it
posts. -/

namespace Sys2Proof.Safety

open Sys2Proof Sys2Proof.Machine

/-- A port after the close of a frame `f` of `n` complete bytes, before its request acts (R3, R6): no frame open, the status copy, what
the request gives and zeros shifted out, and COLLIDED and ABORTED cleared where the copy shows them set. -/
def afterFrame (x : Port) (f : Frame) (n : Nat) (gives : List Byte) : Port :=
  { x with
    frame := none
    out := (f.status.bytes ++ gives ++ List.replicate n 0).take n
    collided := x.collided && !f.status.collided
    aborted := x.aborted && !f.status.aborted }

/-- What no grant, switching, motion, frost or mode event writes: the transfer engine, the sender line with its poll list, the reading
queue, the account, the bank's timers and the parameter records of the battery, the motion and the frost. -/
def sameElsewhere (s t : State) : Prop :=
  t.engine = s.engine ∧ t.line = s.line ∧ t.polls = s.polls ∧ t.queue = s.queue ∧ t.account = s.account ∧ t.bank = s.bank
    ∧ t.battery = s.battery ∧ t.motionParams = s.motionParams ∧ t.frostParams = s.frostParams

/-- Every client entry has the fields and the owner that it had. -/
def sameClients (s t : State) : Prop :=
  ∀ i : Fin 48, 4 ≤ i.1 → (t.entry i).fields = (s.entry i).fields ∧ (t.entry i).owner = (s.entry i).owner

/-- The notices of kind `k` that an event from `s` to `t` posts to each port are those that `posted` names, in that order (R22). Read of the
ports that are not DISABLED and have lost no notice; their earlier notices stand as they stood. -/
def tells (s t : State) (k : NoticeKind) (posted : PortId → List Notice) : Prop :=
  ∀ p : PortId, (s.port p).role ≠ .disabled → (t.port p).overrun = false →
    let before := (s.port p).notices
    (t.port p).notices.take before.length = before
      ∧ ((t.port p).notices.drop before.length).filter (fun m => m.kind = k) = posted p

/-- The ENTRY notices that port `p` receives of an event from `s` to `t`, in ascending entry number: one of each entry whose state or reason
has changed, to its owner, or to its former owner with the reason `freed` where the event freed it (R101, R105). -/
def entryNotices (s t : State) (freed : Reason) (p : PortId) : List Notice :=
  (List.finRange 48).filterMap fun i =>
    let was := s.entry i
    let is := t.entry i
    let notice (r : Reason) : Option Notice := some { kind := .entry, subject := i.1, value := is.state.code * 256 + r.code }
    if was.state = is.state ∧ was.reason = is.reason then none
    else if is.state = .free then (if was.owner = some p then notice freed else none)
    else if is.owner = some p then notice is.reason
    else none

/-- Every port's notice queue holds at most 8 notices, and its judgement count is within 0..7 (1.2.3). -/
def portsLaw (s : State) : Prop := ∀ p : PortId, (s.port p).notices.length ≤ 8 ∧ (s.port p).judged ≤ 7

/-- A DISABLED port stays as power-on reset left it, but for the zeros it shifts out, and no transfer is made for it (R2). -/
def disabledLaw (s : State) : Prop :=
  (∀ p : PortId, (s.port p).role = .disabled → { s.port p with out := [] } = resetPort .disabled)
    ∧ ∀ tr, s.engine.transfer = some tr → (s.port tr.port).role ≠ .disabled

/-- The awning position count stays within 0..Pmax (R163). -/
def awningLaw (s : State) : Prop := s.awning.count ≤ s.motionParams.pmax

/-- The kinds of the channels are those of their places: the two bridges are BRIDGE and no other channel is (2.3, R139). -/
def kindsLaw (s : State) : Prop := ∀ c : Fin 16, (s.channel c).desc.kind = .bridge ↔ 14 ≤ c.1

/-- A HEAVY channel stands in one of the four states of its kind (8.1), and one that is energised is the channel of the present run; the
present run is on a HEAVY channel, the one that the entry holding it targets. So at most one HEAVY channel is energised, and when one is,
it is the channel of the entry holding the present run (R137). -/
def heavyLaw (s : State) : Prop :=
  (∀ c : Fin 16,
    (s.channel c).desc.kind = .heavy →
      ((s.channel c).state = .off ∨ (s.channel c).state = .on ∨ (s.channel c).state = .tripped
          ∨ (s.channel c).state = .lockedOut)
        ∧ ((s.channel c).energised = true → ∃ r, s.budget.run = some r ∧ r.channel = c))
  ∧ ∀ r, s.budget.run = some r → (s.entry r.entry).fields.channel = r.channel ∧ (s.channel r.channel).desc.kind = .heavy

/-- Entries 0 to 3 have no owner port, a client entry has one exactly while it is not FREE (R97), and the hold timer of a FREE entry is
stopped (R96, R102). -/
def entriesLaw (s : State) : Prop :=
  ∀ i : Fin 48,
    (i.1 < 4 → (s.entry i).owner = none)
      ∧ (4 ≤ i.1 → ((s.entry i).owner = none ↔ (s.entry i).state = .free))
      ∧ ((s.entry i).state = .free → (s.entry i).holdTimer = none)

/-- In SETUP every client entry is FREE, and entries 2 and 3 are FREE (R41). -/
def setupLaw (s : State) : Prop := s.mode = .setup → ∀ i : Fin 48, 2 ≤ i.1 → (s.entry i).state = .free

/-- Entry 0 is armed in HEATING alone (R177), entry 1 in IDLE, WATCH and HEATING alone (R179), and the drain timer runs in DUMPING alone
(R178). -/
def frostLaw (s : State) : Prop :=
  (s.frost.state ≠ .heating → (s.entry 0).state = .free)
    ∧ (s.frost.state ≠ .idle → s.frost.state ≠ .watch → s.frost.state ≠ .heating → (s.entry 1).state = .free)
    ∧ (s.frost.state ≠ .dumping → s.frost.drainTimer = none)

/-- The fields of the forced retract of a bridge (table of 6.1.2). -/
def retractFields (c : Fin 16) : EntryFields :=
  { channel := c, demand := .motion .retract, cls := 0, persistence := .once, holdTime := 0, slotFirst := 0, slotSpan := 1
    repetition := 1, base := 0, arm := .armed }

/-- The fields of the dump-valve hold on its channel (table of 6.1.2, R179). -/
def holdFields (c : Fin 16) : EntryFields :=
  { channel := c, demand := .level 100, cls := 0, persistence := .standing, holdTime := 0, slotFirst := 0, slotSpan := 1
    repetition := 1, base := 0, arm := .armed }

/-- The fields of the heater demand on its channel, by the frost parameters (table of 6.1.2, R177). -/
def heatFields (q : FrostParams) (c : Fin 16) : EntryFields :=
  { channel := c, demand := .setpoint q.holdTemp, cls := 0, persistence := .standing, holdTime := 0, slotFirst := q.slotFirst
    slotSpan := q.slotSpan, repetition := 1, base := 0, arm := .armed }

/-- The internal entries carry the fields that their controllers arm them with, unless they are FREE (R98, R169, R177, R179). -/
def internalLaw (s : State) : Prop :=
  ((s.entry 0).state ≠ .free → ∃ c, s.frostParams.heater = some c ∧ (s.entry 0).fields = heatFields s.frostParams c)
    ∧ ((s.entry 1).state ≠ .free → ∃ c, s.frostParams.valve = some c ∧ (s.entry 1).fields = holdFields c)
    ∧ ((s.entry 2).state ≠ .free → (s.entry 2).fields = retractFields 14)
    ∧ ((s.entry 3).state ≠ .free → (s.entry 3).fields = retractFields 15)

/-- Internal entry `i` has been armed as the forced retract of bridge `c` (R98, R168, R169). -/
def forcedIn (t : State) (i : Fin 48) (c : Fin 16) : Prop :=
  (t.entry i).fields = retractFields c ∧ (t.entry i).state ≠ .free ∧ (t.entry i).state ≠ .held

/-- Entry `i` has not been armed: it keeps its fields, and stays FREE where it was FREE. -/
def keptAsItWas (s t : State) (i : Fin 48) : Prop :=
  (t.entry i).fields = (s.entry i).fields ∧ ((s.entry i).state = .free → (t.entry i).state = .free)

/-- A measurement record at a change of mode: the filter of a LEVEL record is seeded into TRAVEL (R69), and its filtered value becomes its value
out of TRAVEL (R70); one that is STALE stays as it is (log entry 36). -/
def refiltered (former new : Mode) (m : MeasRecord) : MeasRecord :=
  if m.desc.kind ≠ .level ∨ m.freshness = .stale then m
  else if former ≠ .travel ∧ new = .travel then { m with accumulator := 8 * m.value.toNat, filtered := m.value.toNat }
  else if former = .travel ∧ new ≠ .travel then { m with filtered := m.value.toNat }
  else m

/-- Of a table of conditions and outcomes the first row whose condition holds gives the outcome, and `rest` where none does. -/
def firstRow (rest : Prop) : List (Prop × Prop) → Prop
  | [] => rest
  | (condition, outcome) :: rows => (condition → outcome) ∧ (¬ condition → firstRow rest rows)

/-- A commit of port `p` to record `n` is judged by the checks of R15 that come before its owning block: NOT_PERMITTED where the role may not
commit it (R16), WRONG_MODE where the mode does not admit it (R17), BAD_FIELD where a field is bad (R19), and `rest` otherwise. -/
def judgedInOrder (s : State) (p : PortId) (n : Nat) (img : Vector Byte 32) (roleMayNot notInMode fieldBad rest : Prop) : Prop :=
  firstRow rest
    [ (roleMayNot, s.judge p n img = .refused .notPermitted)
    , (notInMode, s.judge p n img = .refused .wrongMode)
    , (fieldBad, s.judge p n img = .refused .badField) ]

/-- The byte names the measurement record that is designated: 64 to 87, or 255 where none is (R183). -/
def namesRecord (designated : Option (Fin 24)) (byte : Nat) : Prop :=
  match designated with
  | some k => byte = 64 + k.1
  | none => byte = 255

/-- The byte is no designation of a measurement record. -/
def namesNoRecord (byte : Nat) : Prop := byte ≠ 255 ∧ (byte < 64 ∨ 87 < byte)

/-- The byte names the channel that is designated, or is 255 where none is (R183). -/
def namesChannel (designated : Option (Fin 16)) (byte : Nat) : Prop :=
  match designated with
  | some c => byte = c.1
  | none => byte = 255

/-- Rows of the table of R176 are taken one after another from `s`, the first that applies each time, until none applies in `t`. -/
inductive FrostRowsTaken (lost : Bool) : State → State → Prop where
  | rest {t : State} (h : t.frostRow lost = none) : FrostRowsTaken lost t t
  | row {s u t : State} (h : s.frostRow lost = some u) (rest : FrostRowsTaken lost u t) : FrostRowsTaken lost s t

/-! ### What a demand or the end of an operation leaves of a bridge -/

/-- Where a step with no drive stands, by its switches (R158). -/
def stepAtRest (s : State) : StepState :=
  match s.switches.stepIn, s.switches.stepOut with
  | true, true => .fault
  | true, false => .retracted
  | false, true => if s.mode = .travel then .halted else .extended
  | false, false => .halted

/-- Where an awning with no drive stands, by its in-switch (R158). -/
def awningAtRest (s : State) : AwningState := if s.switches.awningIn then .retracted else .out

/-- A bridge channel that starts to drive (R153); an inrush time of 0 opens no window (log entry 19). -/
def bridgeDriving (x : Channel) (st : ChannelState) : Channel :=
  { x with
    state := st, deadTimer := none, pendingDir := .none
    inrush := if x.desc.inrushTime = 0 then none else some x.desc.inrushTime }

/-- A bridge channel after the command STOP (table of 8.6). -/
def bridgeStopped (x : Channel) : Channel :=
  if x.state = .driveOut ∨ x.state = .driveIn then { x with state := .dead, deadTimer := some 300, pendingDir := .none }
  else if x.state = .dead then { x with pendingDir := .none }
  else x

/-- A bridge channel in which a drive is to wait (table of 8.6): a drive in the other direction first goes into DEAD. -/
def bridgeWaiting (x : Channel) (d : Direction) : Channel :=
  if x.state = .dead then { x with pendingDir := d } else { x with state := .dead, deadTimer := some 300, pendingDir := d }

/-- The entry of an ended operation: DONE for the reason, unless it is DONE already (R157, log entry 12). -/
def endedEntry (e : Entry) (r : Reason) : Entry :=
  if e.state = .done then e else { e with state := .done, reason := r, grantedLevel := none, holdTimer := none }

/-- The step machine with no operation, and its timing stopped (R156, R157). -/
def stepIdle (m : StepControl) : StepControl :=
  { m with operation := none, autoReturn := false, jamRetry := .none, jamRun := 0, travelTimer := none, retryTimer := none }

/-- The awning machine with no operation and no target, and its timing stopped (R156, R157). -/
def awningIdle (m : AwningControl) : AwningControl :=
  { m with operation := none, target := none, stallRetry := .none, stallTimer := none, travelTimer := none, retryTimer := none }

/-- The operation of entry `i` on the step has ended for the reason, with the step in this state and its channel so; the allocator is
informed (R157). -/
def stepEnded (s : State) (i : Fin 48) (r : Reason) (st : StepState) (x : Channel) : State :=
  (((s.setChannel 14 x).setEntry i (endedEntry (s.entry i) r)).setStep (stepIdle { s.step with state := st })).setOwed true

/-- The operation of entry `i` on the awning has ended, likewise (R157). -/
def awningEnded (s : State) (i : Fin 48) (r : Reason) (st : AwningState) (x : Channel) : State :=
  (((s.setChannel 15 x).setEntry i (endedEntry (s.entry i) r)).setAwning (awningIdle { s.awning with state := st })).setOwed true

/-- The step machine once it has taken a demand (R156, R159): a retry, PENDING or USED, is kept from RETRACT to RETRACT alone. -/
def stepTaken (m : StepControl) (o : Operation) : StepControl :=
  let kept : Bool := o.value = .retract && m.operation.any fun p => p.value = .retract
  { m with operation := some o, jamRetry := if kept then m.jamRetry else .none, retryTimer := if kept then m.retryTimer else none }

/-- The awning machine once it has taken a demand (R156, R164): a retry is kept by an inward demand alone (log entry 12). -/
def awningTaken (m : AwningControl) (o : Operation) (inward : Bool) : AwningControl :=
  { m with
    operation := some o, stallRetry := if inward then m.stallRetry else .none, retryTimer := if inward then m.retryTimer else none }

/-- The step is to drive toward `d` for the demand `o` (R158): the drive starts at once from STOPPED, and waits in DEAD otherwise. -/
def stepDriven (s : State) (o : Operation) (d : Direction) : State :=
  let x := s.channel 14
  let m := stepTaken s.step o
  if x.state = .stopped then
    (s.setChannel 14 (bridgeDriving x (if d = .outward then .driveOut else .driveIn))).setStep
      { m with
        state := if d = .outward then .extending else .retracting
        travelTimer := some (s.motionParams.stepTravelMax * 100), jamRun := 0 }
  else (s.setChannel 14 (bridgeWaiting x d)).setStep { m with state := .reversing, travelTimer := none }

/-- The awning is to drive toward `d`, to this target, for the demand `o` (R158, R163, R166), likewise. -/
def awningDriven (s : State) (o : Operation) (inward : Bool) (goal : AwningTarget) (d : Direction) : State :=
  let x := s.channel 15
  let m := { awningTaken s.awning o inward with target := some goal }
  if x.state = .stopped then
    (s.setChannel 15 (bridgeDriving x (if d = .outward then .driveOut else .driveIn))).setAwning
      { m with
        state := if d = .outward then .extending else .retracting
        lastDrive := d, stallTimer := some (s.motionParams.stallInterval * 100)
        travelTimer := some (s.motionParams.awningTravelTimeout * 1000) }
  else (s.setChannel 15 (bridgeWaiting x d)).setAwning { m with state := .reversing, stallTimer := none, travelTimer := none }

/-! ### The laws of the bridges, the water channels, the account and the budget -/

/-- The step heads outward: it is EXTENDING, or a drive out waits in DEAD. -/
def stepOutward (s : State) : Bool := s.step.state = .extending || (s.channel 14).pendingDir = .outward

/-- The awning heads outward: it is EXTENDING, or a drive out waits in DEAD. -/
def awningOutward (s : State) : Bool := s.awning.state = .extending || (s.channel 15).pendingDir = .outward

/-- A machine that is EXTENDING drives its bridge out, a drive out waits only in REVERSING with the bridge in DEAD, and a machine heads
outward only for an EXTEND demand, or on the awning a POSITION demand, with no retry PENDING; a stall retry is PENDING in RETRACTING alone
(R153, R156, R158, R159, R164, R166). -/
def outwardLaw (s : State) : Prop :=
  (s.step.state = .extending → (s.channel 14).state = .driveOut)
    ∧ ((s.channel 14).pendingDir = .outward → s.step.state = .reversing ∧ (s.channel 14).state = .dead)
    ∧ (stepOutward s = true → (∃ o, s.step.operation = some o ∧ o.value = .extend) ∧ s.step.jamRetry ≠ .pending)
    ∧ (s.awning.state = .extending → (s.channel 15).state = .driveOut)
    ∧ ((s.channel 15).pendingDir = .outward → s.awning.state = .reversing ∧ (s.channel 15).state = .dead)
    ∧ (awningOutward s = true →
      (∃ o, s.awning.operation = some o ∧ (o.value = .extend ∨ ∃ n, o.value = .position n)) ∧ s.awning.stallRetry ≠ .pending)
    ∧ (s.awning.stallRetry = .pending → s.awning.state = .retracting)

/-- The laws of R168 and R169. The awning does not head outward in TRAVEL, under an active wind hold or with the wind UNKNOWN, and the step
does not in TRAVEL or with the ignition ON; in TRAVEL the step is not EXTENDED either. While a chain of re-evaluations is cut (log entry 5)
a drive out is still to be stopped. -/
def extendLaw (s : State) : Prop :=
  (s.owed = false → s.mode = .travel ∨ s.wind.holdTimer.isSome ∨ s.windKnown = .unknown → awningOutward s = false)
    ∧ (s.owed = false → s.mode = .travel ∨ s.modeCtl.ignition = true → stepOutward s = false)
    ∧ (s.mode = .travel → s.step.state ≠ .extended)

/-- The filtered level of a designated LEVEL record, 0 where none is designated (R116). -/
def filteredLevel (s : State) (designated : Option (Fin 24)) : Nat :=
  match designated with
  | some k => if (s.measRec k).desc.kind = .level then (s.measRec k).filtered else 0
  | none => 0

/-- The conditions of R181 under which the pump channel is off. -/
def pumpBarred (s : State) : Prop :=
  s.frost.state = .dumping ∨ s.frost.state = .drained
    ∨ filteredLevel s s.frostParams.fresh ≤ s.frostParams.dryLevel
    ∨ s.frostParams.greyFull ≤ filteredLevel s s.frostParams.grey

/-- The dump valve is held closed: IDLE, WATCH and HEATING (R179). -/
def valveHeld (s : State) : Prop := s.frost.state = .idle ∨ s.frost.state = .watch ∨ s.frost.state = .heating

/-- A demand that would energise the dump valve channel: a LEVEL above 0, and a SETPOINT counts as one (R116, R179). -/
def drawsWater : Demand → Bool
  | .level l => 0 < l
  | .setpoint _ => true
  | .none | .motion _ => false

/-- A channel that is off and stays so until it is commanded. -/
def resting (x : Channel) : Bool := x.state = .off || x.state = .tripped || x.state = .lockedOut

/-- What keeps the laws of the water channels from one event to the next: the valve and the pump channel are two of the channels 0 to 13
(R173), an UNUSED channel is off (R140), a record in NEVER has the values 0 (R59, R60), the entry of the present run is GRANTED
(R132), and while no re-evaluation is owed every candidate on a HEAVY pump or valve channel that R116 blocks there is BLOCKED (R122). -/
def waterKeeping (s : State) : Prop :=
  (∀ c, s.frostParams.valve = some c → c.1 < 14 ∧ s.frostParams.pump ≠ some c)
    ∧ (∀ c, s.frostParams.pump = some c → c.1 < 14)
    ∧ (∀ c, (s.channel c).desc.kind = .unused → resting (s.channel c) = true)
    ∧ (∀ k, (s.measRec k).freshness = .never → (s.measRec k).value = 0 ∧ (s.measRec k).filtered = 0)
    ∧ (∀ r, s.budget.run = some r → (s.entry r.entry).state = .granted)
    ∧ (s.owed = false →
      ∀ i : Fin 48, (s.entry i).state.isCandidate = true → (s.descOf i).kind = .heavy →
        (s.frostParams.pump = some (s.entry i).fields.channel → pumpBarred s → (s.entry i).state = .blocked)
        ∧ (s.frostParams.valve = some (s.entry i).fields.channel → ¬ valveHeld s → drawsWater (s.entry i).fields.demand = true →
          (s.entry i).state = .blocked))

/-- The laws of R179 and R181. The dump valve channel is off, and so not energised, but in IDLE, WATCH and HEATING, and the pump channel is
off under a condition of R181. While a chain of re-evaluations is cut (log entry 5) the channels are still to be settled. -/
def waterLaw (s : State) : Prop :=
  s.owed = false →
    (∀ c, s.frostParams.valve = some c → ¬ valveHeld s → resting (s.channel c) = true)
    ∧ (∀ c, s.frostParams.pump = some c → pumpBarred s → resting (s.channel c) = true)

/-- The charge content stays within 0..Qn, the residue within 0..9,999 and the state of charge within 0..1000 (R83). -/
def chargeLaw (s : State) : Prop :=
  s.account.charge ≤ s.battery.capacityAh * 36000 ∧ s.account.residue ≤ 9999 ∧ s.account.soc ≤ 1000

/-- The tier is not NORMAL while the account is unsynced, and it is PROTECT while the low-voltage count is at or above the protect count
(R90). -/
def tierLaw (s : State) : Prop :=
  (s.account.synced = false → s.account.tier ≠ .normal)
    ∧ (s.battery.protectCount ≤ s.account.lowVoltage → s.account.tier = .protect)

/-- The need of an entry at the level granted to it, or at its own level where none is granted (R108, R119). -/
def grantedNeed (s : State) (i : Fin 48) : Nat :=
  needAt (s.descOf i)
    (match (s.entry i).grantedLevel with
      | some l => .level l
      | none => (s.entry i).fields.demand)

/-- Entry `i` is GRANTED on a steady channel. -/
def steadyGrant (s : State) (i : Fin 48) : Bool := (s.entry i).state = .granted && (s.descOf i).kind.steady

/-- The needs, added up, of the entries that are GRANTED on a steady channel. -/
def grantedNeeds (s : State) : Nat := (((List.finRange 48).filter (steadyGrant s)).map (grantedNeed s)).sum

/-- The law of R120. The heavy headroom is B − E − steady total (R121), E and the steady total fit in B, and so does the present run beside
them. The needs of all entries that are GRANTED on a steady channel, exempt or not, are within E and the steady total together, so that
they and the run never exceed B. Where E exceeds B the steady total is 0, there is no run, and every entry that is GRANTED on a steady
channel is exempt. While a chain of re-evaluations is cut (log entry 5) the entries are still to be settled. -/
def budgetLaw (s : State) : Prop :=
  let b := s.budget
  b.headroom = (b.budget : Int) - b.exemptSum - b.steadyTotal
    ∧ (b.exemptSum ≤ b.budget → b.exemptSum + b.steadyTotal ≤ b.budget)
    ∧ (b.budget < b.exemptSum → b.steadyTotal = 0 ∧ b.run = none)
    ∧ (∀ r, b.run = some r → (r.need : Int) ≤ b.headroom)
    ∧ (s.owed = false →
      grantedNeeds s ≤ b.exemptSum + b.steadyTotal
        ∧ (b.budget < b.exemptSum → ∀ i : Fin 48, steadyGrant s i = true → s.exempt i = true))

/-- A sender's failure count is within 0..3 and its health follows the count (R53, R54). -/
def soundHealth (h : SenderHealth) : Prop :=
  h.failures ≤ 3 ∧ (h.health = .present ↔ h.failures = 0) ∧ (h.health = .absent ↔ h.failures = 3)

/-- The health of the shunt and of every poll entry follows its failure count, and the skip count is 0 in every entry that is not ABSENT
(R47, R53, R54). -/
def senderLaw (s : State) : Prop :=
  soundHealth s.line.shunt
    ∧ ∀ j : Fin 32, soundHealth (s.poll j).sender ∧ ((s.poll j).sender.health ≠ .absent → (s.poll j).skip = 0)

/-- The reading queue holds at most 16 readings, and its put position is its get position advanced by its fill count (4.5). -/
def queueLaw (s : State) : Prop :=
  s.queue.fill ≤ 16 ∧ s.queue.put.1 = (s.queue.get.1 + s.queue.fill) % 16

/-- The counters stay within the ranges that their records give: slot 0..15, cycle 0..63, and the wrapping counts of 16 bits. -/
def countersLaw (s : State) : Prop :=
  s.sched.slot ≤ 15 ∧ s.sched.cycle ≤ 63 ∧ s.line.periodCount ≤ 65535 ∧ s.budget.evaluations ≤ 65535
    ∧ s.account.reports ≤ 65535

end Sys2Proof.Safety
end

