-- ==== Sys2Proof/Certificates/Slice0/Obligations.lean ====
section
/-! DEFINITION. The statements for the provers, chapter by chapter of the manual. In each, `s.setPort p y` is `s` with port `p`
replaced by `y` and nothing else changed, and likewise for the other groups of records, so that an equation gives the frame of
the command as well as its effect. -/

open Sys2Proof Sys2Proof.Machine Sys2Proof.Safety

/-! ### The queue of commands -/

/-- Section 4.5: one command at a time, the first that waits. -/
def Obligations.StepTakesTheFrontCommand : Prop :=
  ∀ (c : Instr) (rest : List Instr) (s : State),
    Sys2Proof.Machine.step { s with pending := c :: rest } = exec c { s with pending := rest }

/-- The model's choice (log entry 2): with no command waiting, a re-evaluation still owed is made, else the first event due, else one
millisecond passes. -/
def Obligations.IdleStepRunsTheClock : Prop :=
  ∀ s : State, s.pending = [] →
    (s.owed = true → Sys2Proof.Machine.step s = .next s.reevaluate)
      ∧ (s.owed = false → ∀ c rest, s.dueEvents = c :: rest → Sys2Proof.Machine.step s = exec c s)
      ∧ (s.owed = false → s.dueEvents = [] → Sys2Proof.Machine.step s = .next s.advance)

/-- Every command completes, in every state, and leaves the commands that wait as they are. Section 4.5 gives each command its effect; that one
which does not fit the state completes with no effect (log entries 3 and 11), that a command which meets nothing to act on leaves the
queue alone (log entry 25), and that POWER_ON_RESET keeps the waiting commands too (log entry 31), are the model's choices. -/
def Obligations.EveryCommandCompletesAndKeepsTheQueue : Prop :=
  ∀ (c : Instr) (s : State), ∃ t, exec c s = .next t ∧ t.pending = s.pending

/-! ### Power-on reset -/

/-- R1, R5, R14, R25, R27, R58, R59, R71, R75, R96, R107, R125, R139, R154, R155, R158, R172, R173, R182: what a power-on reset leaves, block by block,
with the defaults of the battery, motion and frost parameters. The roles are
those of the straps, the lowest-numbered VEHICLE alone keeping it, and the step and the awning are resolved from their switches. -/
def Obligations.PowerOnResetHoldsTheSpecValues : Prop :=
  (∀ (v : PortId → BitVec 2) (sw : Switches) (s : State),
      ∃ t, exec (.powerOnReset { cp0 := v .cp0, cp1 := v .cp1, cp2 := v .cp2 } sw) s = .next t
        ∧ ∀ p, (t.port p).role =
            if v p = 0 then .panel
            else if v p = 1 then (if (p ≠ .cp0 ∧ v .cp0 = 1) ∨ (p = .cp2 ∧ v .cp1 = 1) then .disabled else .vehicle)
            else if v p = 2 then .remote
            else .disabled)
  ∧ (∀ (straps : Straps) (sw : Switches) (s : State),
      ∃ t, exec (.powerOnReset straps sw) s = .next t
        ∧ t.engine = { transfer := none, pointer := .cp2 }
        ∧ ∀ p, ∃ role,
          let half : ReadoutHalf := { record := none, result := .none, image := Vector.replicate 48 0 }
          t.port p =
            { role := role
              staging := { state := .idle, host := Vector.replicate 32 0, shadow := Vector.replicate 32 0, remembered := none }
              readout := { state := .idle, host := half, shadow := half }
              collided := false, aborted := false, notices := [], overrun := false, judged := 0
              lastResult := .none, lastRecord := 0, requests := [], frame := none, out := [] })
  ∧ (∀ (straps : Straps) (sw : Switches) (s : State),
      ∃ t, exec (.powerOnReset straps sw) s = .next t
        ∧ (t.modeCtl.requested = .none ∧ t.mode = .setup ∧ t.modeCtl.batteryCommitted = false ∧ t.modeCtl.shuntBound = false
            ∧ t.modeCtl.configured = false ∧ t.modeCtl.stale = false ∧ t.modeCtl.lastRequest = .none
            ∧ t.modeCtl.lastPort = none ∧ t.modeCtl.lastOutcome = .none ∧ t.modeCtl.ignition = false
            ∧ t.modeCtl.moving = false ∧ t.modeCtl.vehicleTimer = none)
        ∧ (t.line.state = .idle ∧ t.line.transaction = none ∧ t.line.shuntDue = false ∧ t.line.listAllowed = 0
            ∧ t.line.considered = 0 ∧ t.line.shuntAddress = 0 ∧ t.line.queueEnable = false ∧ t.line.windowLow = 1
            ∧ t.line.windowHigh = 254 ∧ t.line.shunt = { failures := 0, health := .present, lastFault := .none }
            ∧ t.line.pointer = 0 ∧ t.line.periodCount = 0 ∧ t.line.pollTimer = 250)
        ∧ (∀ j, t.poll j = { address := 0, sender := { failures := 0, health := .present, lastFault := .none }, skip := 0 })
        ∧ (∀ k, t.measRec k =
            { desc := { address := 0, channel := 0, kind := .temperature, staleLimit := 8 }, value := 0, filtered := 0
              accumulator := 0, freshness := .never, age := 0, unread := { cp0 := false, cp1 := false, cp2 := false }
              lost := { cp0 := false, cp1 := false, cp2 := false }, updates := 0 })
        ∧ (t.queue.fill = 0 ∧ t.queue.put = 0 ∧ t.queue.get = 0 ∧ t.queue.overrun = false)
        ∧ (t.account.charge = 3600000 ∧ t.account.residue = 0 ∧ t.account.seed = 0 ∧ t.account.lastSeed = none
            ∧ t.account.synced = false ∧ t.account.gap = true ∧ t.account.hold = false ∧ t.account.tail = 0
            ∧ t.account.lowVoltage = 0 ∧ t.account.reports = 0 ∧ t.account.temperature = 25 ∧ t.account.factor = 1024
            ∧ t.account.effective = 7200000 ∧ t.account.soc = 500 ∧ t.account.tier = .conserve)
        ∧ (∀ i, t.entry i =
            { fields :=
                { channel := 0, demand := .none, cls := 3, persistence := .once, holdTime := 0, slotFirst := 0, slotSpan := 1
                  repetition := 1, base := 0, arm := .held }
              state := .free, reason := .none, owner := none, grantedLevel := none, holdTimer := none, starvation := 0
              calling := false, runs := 0 })
        ∧ (t.budget.sourceSum = 0 ∧ t.budget.allowance = 600 ∧ t.budget.budget = 600 ∧ t.budget.exemptSum = 0
            ∧ t.budget.reserve = 0 ∧ t.budget.steadyTotal = 0 ∧ t.budget.steadyBudget = 600 ∧ t.budget.headroom = 600
            ∧ t.budget.run = none ∧ t.budget.evaluations = 0
            ∧ ∀ c, t.row c = { entry := none, level := 0, sensed := 0 })
        ∧ (t.sched.slot = 0 ∧ t.sched.cycle = 0 ∧ t.sched.decision = none ∧ t.sched.slotLength = 2 ∧ t.sched.cabin = none
            ∧ t.sched.slotTimer = 2000)
        ∧ (∀ c : Fin 16,
            (t.channel c).desc =
                (if c.1 < 14 then { kind := .unused, nominal := 0, trip := 10, rampRate := 10, inrushTime := 0 }
                else { kind := .bridge, nominal := 40, trip := 100, rampRate := 10, inrushTime := 300 })
              ∧ (t.channel c).state = (if c.1 < 14 then .off else .stopped)
              ∧ (t.channel c).target = 0 ∧ (t.channel c).present = 0 ∧ (t.channel c).duty = 0 ∧ (t.channel c).shadow = 0
              ∧ (t.channel c).tripCount = 0 ∧ (t.channel c).cleanTime = 0 ∧ (t.channel c).retryTimer = none
              ∧ (t.channel c).inrush = none ∧ (t.channel c).deadTimer = none ∧ (t.channel c).pendingDir = .none)
        ∧ (t.frost.requested = false ∧ t.frost.state = .drained ∧ t.frost.cause = .reset ∧ t.frost.drainTimer = none
            ∧ t.frost.heater = { starved := false, tier := false, lockedOut := false, noChannel := true })
        ∧ t.battery =
            { capacityAh := 200, efficiency := 243, derating := 6, fullVoltage := 14200, tailCurrent := 200, tailTime := 120
              protectVoltage := 11600, protectCount := 8, t1 := 500, t2 := 300, t3 := 150, hysteresis := 30
              allowNormal := 1000, allowConserve := 600, allowEssential := 250, allowProtect := 0, busLimit := 1500
              maxInterval := 1000, current := none, voltage := none, temperature := none, interval := none }
        ∧ t.motionParams =
            { stepTravelMax := 40, stepJamCurrent := 80, stepJamTime := 2, pmax := 1200, stallInterval := 5, syncSlack := 20
              awningTravelTimeout := 60, wind := none, windLimit := 90, windCount := 3, gustLimit := 140
              windHoldTime := 15 }
        ∧ t.frostParams =
            { enable := true, tank := none, outside := none, fresh := none, grey := none, valve := none, heater := none
              pump := none, watchTemp := 30, holdTemp := 60, dumpTemp := 20, closeTemp := 70, starvationLimit := 8
              drainTime := 20, slotFirst := 0, slotSpan := 4, dryLevel := 50, greyFull := 950 })
  ∧ (∀ (straps : Straps) (sw : Switches) (s : State),
      ∃ t, exec (.powerOnReset straps sw) s = .next t
        ∧ t.step =
            { state :=
                match sw.stepIn, sw.stepOut with
                | true, true => .fault
                | true, false => .retracted
                | false, true => .extended
                | false, false => .halted
              operation := none, autoReturn := false, timeouts := 0, jamRetry := .none, jamRun := 0, travelTimer := none
              retryTimer := none }
        ∧ t.awning =
            { state := if sw.awningIn then .retracted else .out
              operation := none, count := if sw.awningIn then 0 else t.motionParams.pmax, target := none, stallRetry := .none
              lastDrift := 0, lastDrive := .none, stallTimer := none, travelTimer := none, retryTimer := none }
        ∧ t.wind = { runCount := 0, holdTimer := none })

/-! ### Chapter 1: frames -/

/-- R2, R3, R5, R6, R12, 11.1: a frame opens with a copy of the port status; a STATUS frame shifts out the four bytes of the copy, of the layout of 11.1, and
clears COLLIDED and ABORTED where the copy shows them set; a READ shifts out record number, fetch result and image of the readout host half
too; a DISABLED port opens no frame, and every frame that closes there shifts out zeros and has no other effect. -/
def Obligations.OpenStatusAndReadFrames : Prop :=
  (∀ (s : State) (p : PortId), (s.port p).role ≠ .disabled → (s.port p).frame = none →
      let x := s.port p
      exec (.frameOpen p) s = .next (s.setPort p
        { x with
          frame := some
            { status :=
                { role := x.role, staging := x.staging.state, readout := x.readout.state, collided := x.collided
                  aborted := x.aborted, noticeCount := x.notices.length, overrun := x.overrun, judged := x.judged
                  lastResult := x.lastResult, lastRecord := x.lastRecord }
              notice := none } }))
  ∧ (∀ (s : State) (p : PortId) (n : Nat) (f : Frame), 0 < n → (s.port p).role ≠ .disabled → (s.port p).frame = some f →
      let x := s.port p
      exec (.status p n) s = .next (s.setPort p
        { x with
          frame := none
          out := (f.status.bytes ++ List.replicate n 0).take n
          collided := x.collided && !f.status.collided
          aborted := x.aborted && !f.status.aborted }))
  ∧ (∀ (s : State) (p : PortId) (n : Nat) (f : Frame),
      0 < n → (s.port p).role ≠ .disabled → (s.port p).frame = some f →
      let x := s.port p
      let h := x.readout.host
      exec (.read p n) s = .next (s.setPort p
        (afterFrame x f n ([byteOf (h.record.getD 255), byteOf h.result.code] ++ h.image.toList))))
  ∧ (∀ st : PortStatus, st.noticeCount ≤ 8 → st.judged ≤ 7 → st.lastRecord ≤ 255 →
      ∃ b0 b1 b2 b3 : Byte, st.bytes = [b0, b1, b2, b3]
        ∧ b0.toNat / 64 = (match st.role with | .panel => 0 | .vehicle => 1 | .remote => 2 | .disabled => 3)
        ∧ b0.toNat / 16 % 4 = (match st.staging with | .idle => 0 | .busy => 1 | .busyPending => 2)
        ∧ b0.toNat / 4 % 4 = (match st.readout with | .idle => 0 | .busy => 1 | .ready => 2)
        ∧ b0.toNat / 2 % 2 = (if st.collided then 1 else 0) ∧ b0.toNat % 2 = (if st.aborted then 1 else 0)
        ∧ b1.toNat / 16 = st.noticeCount ∧ b1.toNat / 8 % 2 = (if st.overrun then 1 else 0) ∧ b1.toNat % 8 = st.judged
        ∧ b2.toNat =
          (match st.lastResult with
            | .none => 0 | .accepted => 1 | .clamped => 2 | .notOwner => 3 | .notPermitted => 4 | .wrongMode => 5
            | .badRecord => 6 | .badField => 7 | .tooCold => 8 | .notConfigured => 9)
        ∧ b3.toNat = st.lastRecord)
  ∧ (∀ (s : State) (p : PortId) (n : Nat) (body : List Byte), (s.port p).role = .disabled → (s.port p).frame = none →
      let zeros (k : Nat) : State := s.setPort p { s.port p with out := List.replicate k 0 }
      exec (.frameOpen p) s = .next s ∧ exec (.notice p .codeReceived) s = .next s
      ∧ exec (.status p n) s = .next (zeros n) ∧ exec (.view p n) s = .next (zeros n) ∧ exec (.read p n) s = .next (zeros n)
      ∧ exec (.notice p (.closed n)) s = .next (zeros n) ∧ exec (.abortedFrame p body) s = .next (zeros body.length)
      ∧ exec (.stage p body) s = .next (zeros (body.length + 1)) ∧ exec (.commit p body) s = .next (zeros (body.length + 1))
      ∧ exec (.fetch p body) s = .next (zeros (body.length + 1))
      ∧ exec (.fetchView p body) s = .next (zeros (body.length + 1)))

/-- R7, R8: a STAGE writes its image into the host half with zeros beyond it; a COMMIT swaps and requests in IDLE and is remembered in BUSY; both are
refused in BUSY_PENDING. -/
def Obligations.StageAndCommitMoveTheStagingPair : Prop :=
  (∀ (s : State) (p : PortId) (len : Byte) (bytes : List Byte) (f : Frame),
      (s.port p).role ≠ .disabled → (s.port p).frame = some f →
      1 ≤ len.toNat → len.toNat ≤ 32 → len.toNat ≤ bytes.length →
      let x := s.port p
      let y := afterFrame x f (bytes.length + 2) []
      (x.staging.state ≠ .busyPending →
        exec (.stage p (len :: bytes)) s = .next (s.setPort p
          { y with
            staging :=
              { x.staging with host := Vector.ofFn fun i => if i.1 < len.toNat then bytes.getD i.1 0 else 0 } }))
      ∧ (x.staging.state = .busyPending →
        exec (.stage p (len :: bytes)) s = .next (s.setPort p { y with collided := true })))
  ∧ (∀ (s : State) (p : PortId) (t : Byte) (more : List Byte) (f : Frame),
      (s.port p).role ≠ .disabled → (s.port p).frame = some f →
      let x := s.port p
      let y := afterFrame x f (more.length + 2) []
      (x.staging.state = .idle →
        exec (.commit p (t :: more)) s = .next (s.setPort p
          { y with
            staging := { x.staging with state := .busy, host := x.staging.shadow, shadow := x.staging.host }
            requests := x.requests ++ [.commit t.toNat] }))
      ∧ (x.staging.state = .busy →
        exec (.commit p (t :: more)) s = .next (s.setPort p
          { y with staging := { x.staging with state := .busyPending, remembered := some t.toNat } }))
      ∧ (x.staging.state = .busyPending →
        exec (.commit p (t :: more)) s = .next (s.setPort p { y with collided := true })))

/-- R10, R11: FETCH and FETCH_VIEW request a fetch in IDLE and READY, the second after a swap, and are refused in BUSY; a VIEW swaps the readout halves
in IDLE and READY, and is refused in BUSY. -/
def Obligations.FetchAndViewMoveTheReadoutPair : Prop :=
  (∀ (s : State) (p : PortId) (r : Byte) (more : List Byte) (f : Frame),
    (s.port p).role ≠ .disabled → (s.port p).frame = some f →
    let x := s.port p
    let y := afterFrame x f (more.length + 2) []
    (x.readout.state ≠ .busy →
      exec (.fetch p (r :: more)) s = .next (s.setPort p
        { y with readout := { x.readout with state := .busy }, requests := x.requests ++ [.fetch r.toNat] }))
    ∧ (x.readout.state ≠ .busy →
      exec (.fetchView p (r :: more)) s = .next (s.setPort p
        { y with
          readout := { state := .busy, host := x.readout.shadow, shadow := x.readout.host }
          requests := x.requests ++ [.fetch r.toNat] }))
    ∧ (x.readout.state = .busy →
      exec (.fetch p (r :: more)) s = .next (s.setPort p { y with collided := true })
        ∧ exec (.fetchView p (r :: more)) s = .next (s.setPort p { y with collided := true })))
  ∧ (∀ (s : State) (p : PortId) (n : Nat) (f : Frame),
    0 < n → (s.port p).role ≠ .disabled → (s.port p).frame = some f →
    let x := s.port p
    let y := afterFrame x f n []
    (x.readout.state ≠ .busy →
      exec (.view p n) s = .next (s.setPort p
        { y with readout := { state := .idle, host := x.readout.shadow, shadow := x.readout.host } }))
    ∧ (x.readout.state = .busy → exec (.view p n) s = .next (s.setPort p { y with collided := true })))

/-- R2, R22 to R24: a NOTICE frame copies the oldest notice at its code and removes it at its close, unless it is short or a post removed it; a
notice that is posted is appended to the queue of each port that receives it, whose oldest is lost, with the overrun flag set, when it already
holds 8; a DISABLED port receives none; and the attention line is asserted while the queue holds a notice. -/
def Obligations.NoticeFrameTakesTheOldest : Prop :=
  (∀ (s : State) (p : PortId) (f : Frame), (s.port p).role ≠ .disabled → (s.port p).frame = some f →
    let x := s.port p
    (f.notice = none →
      exec (.notice p .codeReceived) s = .next (s.setPort p
        { x with
          frame := some { f with notice := some { copy := x.notices.head?, stillOldest := !x.notices.isEmpty } } }))
    ∧ ∀ (c : NoticeCopy) (n : Nat), f.notice = some c →
      let shown : List Byte :=
        match c.copy with
        | some m => [byteOf m.kind.code, byteOf m.subject, byteOf (m.value / 256), byteOf m.value]
        | none => [0, 0, 0, 0]
      let y := afterFrame x f n shown
      (8 ≤ n →
        exec (.notice p (.closed n)) s = .next (s.setPort p
          { y with
            notices := if c.copy.isSome ∧ c.stillOldest then x.notices.tail else x.notices
            overrun := x.overrun && !f.status.overrun }))
      ∧ (0 < n → n < 8 → exec (.notice p (.closed n)) s = .next (s.setPort p { y with aborted := true })))
  ∧ (∀ (x : Port) (m : Notice),
      (x.role = .disabled → x.post m = x ∧ x.attention = false)
      ∧ (x.role ≠ .disabled →
        (x.notices.length < 8 → x.post m = { x with notices := x.notices ++ [m] })
        ∧ (8 ≤ x.notices.length →
          x.post m =
            { x with
              notices := x.notices.tail ++ [m]
              overrun := true
              frame :=
                match x.frame with
                | some { status := st, notice := some c } =>
                  some { status := st, notice := some { c with stillOldest := false } }
                | other => other })
        ∧ (x.attention = true ↔ x.notices ≠ [])))
  ∧ (∀ (s : State) (m : Notice),
      (∀ p, (s.postAll m).port p = (s.port p).post m)
      ∧ (∀ p, (s.postPanels m).port p = if (s.port p).role = .panel then (s.port p).post m else s.port p)
      ∧ s.postAll m = { s with ports := (s.postAll m).ports } ∧ s.postPanels m = { s with ports := (s.postPanels m).ports })

/-- R3, R4: an unknown code and a frame shorter than its request needs set ABORTED and do nothing else; a frame with no complete byte has
no effect. -/
def Obligations.ShortOrUnknownFrameSetsAborted : Prop :=
  ∀ (s : State) (p : PortId) (f : Frame), (s.port p).role ≠ .disabled → (s.port p).frame = some f →
    let x := s.port p
    (∀ code more, exec (.abortedFrame p (code :: more)) s
        = .next (s.setPort p { afterFrame x f (more.length + 1) [] with aborted := true }))
    ∧ exec (.abortedFrame p []) s = .next (s.setPort p { x with frame := none, out := [] })
    ∧ exec (.commit p []) s = .next (s.setPort p { afterFrame x f 1 [] with aborted := true })
    ∧ exec (.fetch p []) s = .next (s.setPort p { afterFrame x f 1 [] with aborted := true })
    ∧ exec (.fetchView p []) s = .next (s.setPort p { afterFrame x f 1 [] with aborted := true })
    ∧ exec (.stage p []) s = .next (s.setPort p { afterFrame x f 1 [] with aborted := true })
    ∧ ∀ (len : Byte) (bytes : List Byte), len.toNat = 0 ∨ 32 < len.toNat ∨ bytes.length < len.toNat →
        exec (.stage p (len :: bytes)) s
          = .next (s.setPort p { afterFrame x f (bytes.length + 2) [] with aborted := true })

/-! ### Chapter 1: transfers -/

/-- R14 to R16: the free engine serves the first port after its pointer that has a request waiting, and the earlier request of that port; the
record numbers that the record store lists; a commit to any other is BAD_RECORD, one to a record that no port writes is NOT_PERMITTED
from every role, and so is one to a client entry whose content the port's role may not commit. -/
def Obligations.TransfersAndRecordNumbers : Prop :=
  (∀ (s : State) (a b c : PortId), s.engine.transfer = none →
     (s.engine.pointer, a, b, c) ∈ [(PortId.cp2, PortId.cp0, PortId.cp1, PortId.cp2), (.cp0, .cp1, .cp2, .cp0), (.cp1, .cp2, .cp0, .cp1)] →
     let serve (p : PortId) (r : Request) (rest : List Request) : State :=
       (s.setPort p { s.port p with requests := rest }).setEngine { transfer := some { port := p, request := r }, pointer := p }
     (∀ r rest, (s.port a).requests = r :: rest → exec .transferStart s = .next (serve a r rest))
     ∧ (∀ r rest, (s.port a).requests = [] → (s.port b).requests = r :: rest → exec .transferStart s = .next (serve b r rest))
     ∧ (∀ r rest, (s.port a).requests = [] → (s.port b).requests = [] → (s.port c).requests = r :: rest →
         exec .transferStart s = .next (serve c r rest))
     ∧ ((s.port a).requests = [] → (s.port b).requests = [] → (s.port c).requests = [] → exec .transferStart s = .next s))
  ∧ (∀ n : Nat, recordOf n = none ↔ ¬ (n ≤ 47 ∨ (64 ≤ n ∧ n ≤ 87) ∨ (96 ≤ n ∧ n ≤ 122) ∨ n = 124 ∨ (128 ≤ n ∧ n ≤ 159)))
    ∧ (∀ (s : State) (p : PortId) (img : Vector Byte 32) (n : Nat),
        (recordOf n = none → s.judge p n img = .refused .badRecord)
        ∧ (n ≤ 3 ∨ n = 113 ∨ n = 117 ∨ n = 124 → s.judge p n img = .refused .notPermitted)
        ∧ (let role := (s.port p).role
          let b (k : Nat) : Nat := imageByte img k
          4 ≤ n → n ≤ 47 →
          (role = .remote ∧ 3 ≤ b 1) ∨ (role = .vehicle ∧ b 1 ≠ 0 ∧ ¬ (b 1 = 3 ∧ b 3 = 1)) ∨ role = .disabled →
          s.judge p n img = .refused .notPermitted))

/-- R5, R9, R15 to R17, R21, R43, R55: a judged commit writes its result, its target and the judgement count into the status of its port, moves the
staging pair on and, where it is refused, leaves the rest of the state as it is; where it is taken, the owning block then acts on it. A PANEL
commit of a poll entry in SETUP or PARKED is ACCEPTED and writes its address, with its health reset where the address changes; a taken commit
of the line parameters writes its four fields, with the health of the shunt reset where its address changes. A commit of either record is
NOT_PERMITTED from any other role, WRONG_MODE outside its modes, BAD_FIELD where a field is out of range, and ACCEPTED with its fields
otherwise. -/
def Obligations.CommitCompletionJudgesTheImage : Prop :=
  (∀ (s : State) (p : PortId) (target : Nat) (j : Judgement),
      s.engine.transfer = some { port := p, request := .commit target } →
      s.judge p target (s.port p).staging.shadow = j →
      let x := s.port p
      let y : Port :=
        { x with
          lastResult := (match j with | .refused r => r | .taken r _ => r)
          lastRecord := target, judged := (x.judged + 1) % 8 }
      let free := s.setEngine { s.engine with transfer := none }
      let acted (t : State) : State := match j with | .refused _ => t | .taken _ o => t.obey p o
      (x.staging.state = .busy →
        exec .commitCompletion s
          = .next (acted (free.setPort p { y with staging := { x.staging with state := .idle, remembered := none } })))
      ∧ ∀ t, x.staging.state = .busyPending → x.staging.remembered = some t →
        exec .commitCompletion s
          = .next (acted (free.setPort p
              { y with
                staging := { state := .busy, host := x.staging.shadow, shadow := x.staging.host, remembered := none }
                requests := x.requests ++ [.commit t] })))
  ∧ (∀ (s : State) (p : PortId) (j : Fin 32),
      s.engine.transfer = some { port := p, request := .commit (128 + j.1) } → (s.port p).role = .panel →
      (s.port p).staging.state = .busy →
      let x := s.port p
      let a := imageByte x.staging.shadow 0
      let done (r : Result) : State :=
        (s.setEngine { s.engine with transfer := none }).setPort p
          { x with
            lastResult := r, lastRecord := 128 + j.1, judged := (x.judged + 1) % 8
            staging := { x.staging with state := .idle, remembered := none } }
      (s.mode = .setup ∨ s.mode = .parked →
        (a ≤ 254 → a ≠ (s.poll j).address →
          exec .commitCompletion s
            = .next ((done .accepted).setPoll j
                { address := a, sender := { failures := 0, health := .present, lastFault := .none }, skip := 0 }))
        ∧ (a ≤ 254 → a = (s.poll j).address → exec .commitCompletion s = .next (done .accepted))
        ∧ (a = 255 → exec .commitCompletion s = .next (done .badField)))
      ∧ (s.mode = .travel ∨ s.mode = .storage → exec .commitCompletion s = .next (done .wrongMode)))
  ∧ (∀ (s : State) (p : PortId) (shunt low high : Nat) (enable : Bool),
      s.obey p (.line shunt enable low high)
        = s.setLine
            { s.line with
              shuntAddress := shunt, queueEnable := enable, windowLow := low, windowHigh := high
              shunt :=
                if shunt = s.line.shuntAddress then s.line.shunt
                else { failures := 0, health := .present, lastFault := .none } })
  ∧ (∀ (s : State) (p : PortId) (j : Fin 32) (img : Vector Byte 32),
      let a := imageByte img 0
      judgedInOrder s p (128 + j.1) img ((s.port p).role ≠ .panel) (s.mode ≠ .setup ∧ s.mode ≠ .parked) (a = 255)
        (s.judge p (128 + j.1) img = .taken .accepted (.poll j a)))
  ∧ (∀ (s : State) (p : PortId) (img : Vector Byte 32),
      let b (k : Nat) : Nat := imageByte img k
      let bad : Prop := b 0 = 255 ∨ 1 < b 1 ∨ b 2 = 0 ∨ b 2 = 255 ∨ b 3 = 0 ∨ b 3 = 255 ∨ b 3 < b 2
      judgedInOrder s p 122 img ((s.port p).role ≠ .panel) (s.mode ≠ .setup) bad
        (s.judge p 122 img = .taken .accepted (.line (b 0) (b 1 = 1) (b 2) (b 3))))

/-- R17 to R20, R96, R99, R101, R102, R105, R183: a claim of a FREE entry by a PANEL port is judged against mode and fields, and taken CLAMPED where a clamp
changes a field; the conditions of the field check, and the fields that a sound image stages; the clamps themselves; a taken commit of a client entry writes its fields and owner, sets its standing and its hold timer, clears
a lockout of its channel where it arms it and ends a run that it holds or moves; a release makes the entry FREE; and both post the ENTRY
notices of what they change, a release by another port with CANCELLED. -/
def Obligations.PanelClaimIsJudgedAndClamped : Prop :=
  (∀ (s : State) (p : PortId) (i : Fin 48) (img : Vector Byte 32),
      (s.port p).role = .panel → 4 ≤ i.1 → (s.entry i).state = .free → imageByte img 1 ≠ 0 →
      (s.mode = .setup → s.judge p i.1 img = .refused .wrongMode)
      ∧ (s.mode ≠ .setup → stagedEntry s img = none → s.judge p i.1 img = .refused .badField)
      ∧ ∀ f, s.mode ≠ .setup → stagedEntry s img = some f →
        s.judge p i.1 img
          = .taken (if clampEntry .panel f = f then .accepted else .clamped) (.entry i (clampEntry .panel f)))
  ∧ (∀ (s : State) (p : PortId) (i : Fin 48) (img : Vector Byte 32),
      (s.port p).role = .panel → 4 ≤ i.1 → (s.entry i).state = .free → s.mode ≠ .setup → kindsLaw s →
      let b (k : Nat) : Nat := imageByte img k
      b 1 ≠ 0 →
      let kind := (s.channel (Fin.ofNat 16 (b 0))).desc.kind
      let slotsBad : Prop :=
        (b 11 ≠ 1 ∧ b 11 ≠ 2 ∧ b 11 ≠ 4 ∧ b 11 ≠ 8 ∧ b 11 ≠ 16 ∧ b 11 ≠ 32 ∧ b 11 ≠ 64) ∨ b 11 ≤ b 12 ∨ 15 < b 9 ∨ b 10 = 0
          ∨ 16 < b 9 + b 10
      let bad : Prop :=
        3 < b 1 ∨ 15 < b 0 ∨ 3 < b 5 ∨ 1 < b 6 ∨ 1 < b 13
          ∨ (b 1 ≠ 3 ∧ 14 ≤ b 0)
          ∨ (b 1 = 3 ∧ (b 0 < 14 ∨ 3 < b 3 ∨ (b 3 = 3 ∧ b 0 = 14)))
          ∨ (b 1 = 2 ∧ kind ≠ .heavy) ∨ kind = .unused ∨ (kind = .heavy ∧ slotsBad)
      (bad → s.judge p i.1 img = .refused .badField)
      ∧ (¬ bad → ∃ f, stagedEntry s img = some f
        ∧ f.channel.1 = b 0
        ∧ (b 1 = 1 → f.demand = .level (b 2 * 256 + b 3))
        ∧ (b 1 = 2 →
          f.demand = .setpoint (if b 2 < 128 then (b 2 * 256 + b 3 : Int) else (b 2 * 256 + b 3 : Int) - 65536))
        ∧ (b 1 = 3 →
          f.demand =
            .motion (if b 3 = 0 then .extend else if b 3 = 1 then .retract else if b 3 = 2 then .stop else .position (b 4)))
        ∧ f.cls.1 = b 5 ∧ f.persistence = (if b 6 = 0 then .once else .standing) ∧ f.holdTime = b 7 * 256 + b 8
        ∧ f.slotFirst = b 9 ∧ f.slotSpan = b 10 ∧ f.repetition = b 11 ∧ f.base = b 12
        ∧ f.arm = (if b 13 = 0 then .held else .armed)))
  ∧ (∀ (role : Role) (f : EntryFields),
      let g := clampEntry role f
      (∀ l, f.demand = .level l → g.demand = .level (if 100 < l then 100 else l))
      ∧ (∀ t, f.demand = .setpoint t → g.demand = .setpoint (if t < 50 then 50 else if 300 < t then 300 else t))
      ∧ (∀ n, f.demand = .motion (.position n) → g.demand = .motion (.position (if 100 < n then 100 else n)))
      ∧ (f.demand = .motion .extend ∨ f.demand = .motion .retract ∨ f.demand = .motion .stop → g.demand = f.demand)
      ∧ (role = .remote → f.cls.1 ≤ 1 → g.cls = 2)
      ∧ (role ≠ .remote → f.cls = 0 → g.cls = 1)
      ∧ ((role = .remote ∧ 2 ≤ f.cls.1) ∨ (role ≠ .remote ∧ f.cls ≠ 0) → g.cls = f.cls)
      ∧ (∀ v, f.demand = .motion v → g.persistence = .once)
      ∧ ((∀ v, f.demand ≠ .motion v) → g.persistence = f.persistence)
      ∧ g.holdTime = (if 1440 < f.holdTime then 1440 else f.holdTime)
      ∧ g.channel = f.channel ∧ g.slotFirst = f.slotFirst ∧ g.slotSpan = f.slotSpan ∧ g.repetition = f.repetition
      ∧ g.base = f.base ∧ g.arm = f.arm)
  ∧ (∀ (s : State) (p : PortId) (i : Fin 48) (f : EntryFields), 4 ≤ i.1 →
      let t := s.obey p (.entry i f)
      let e := t.entry i
      e.fields = f ∧ e.owner = some p
      ∧ (f.arm = .held → e.state = .held ∧ e.reason = .none ∧ e.grantedLevel = none ∧ e.holdTimer = none)
      ∧ (f.arm = .armed →
        e.state ≠ .free ∧ e.state ≠ .held
        ∧ (e.state ≠ .done → e.holdTimer = if f.holdTime = 0 then none else some (f.holdTime * 60000))
        ∧ (t.channel f.channel).state ≠ .lockedOut)
      ∧ (f.arm = .held ∨ f.channel ≠ (s.entry i).fields.channel → t.holdsRun i = false)
      ∧ tells s t .entry (entryNotices s t .none)
      ∧ (∀ j, 2 ≤ j.1 → j ≠ i → (t.entry j).fields = (s.entry j).fields ∧ (t.entry j).owner = (s.entry j).owner)
      ∧ sameElsewhere s t ∧ t.meas = s.meas ∧ t.sched = s.sched ∧ t.modeCtl = s.modeCtl ∧ t.wind = s.wind
      ∧ t.switches = s.switches)
  ∧ (∀ (s : State) (p : PortId) (i : Fin 48), 4 ≤ i.1 →
      let t := s.obey p (.release i)
      ((s.entry i).state = .free → t = s)
      ∧ ((s.entry i).state ≠ .free →
        t.entry i =
            { fields :=
                { channel := 0, demand := .none, cls := 3, persistence := .once, holdTime := 0, slotFirst := 0, slotSpan := 1
                  repetition := 1, base := 0, arm := .held }
              state := .free, reason := .none, owner := none, grantedLevel := none, holdTimer := none, starvation := 0
              calling := false, runs := 0 }
        ∧ t.holdsRun i = false
        ∧ tells s t .entry (entryNotices s t (if (s.entry i).owner = some p then .none else .cancelled))
        ∧ (∀ j, j ≠ i → (t.entry j).fields = (s.entry j).fields ∧ (t.entry j).owner = (s.entry j).owner)
        ∧ sameElsewhere s t ∧ t.meas = s.meas ∧ t.sched = s.sched ∧ t.modeCtl = s.modeCtl ∧ t.wind = s.wind
        ∧ t.frost = s.frost ∧ t.switches = s.switches))

/-- R18: a commit that passes the role check, to an entry owned by another port, is NOT_OWNER, but for a release by a PANEL port. -/
def Obligations.OwnedEntryRefusesOtherPorts : Prop :=
  ∀ (s : State) (p q : PortId) (i : Fin 48) (img : Vector Byte 32),
    p ≠ q → 4 ≤ i.1 → (s.entry i).state ≠ .free → (s.entry i).owner = some q → s.mode ≠ .setup →
    ((s.port p).role = .panel → imageByte img 1 ≠ 0 → s.judge p i.1 img = .refused .notOwner)
    ∧ ((s.port p).role = .panel → imageByte img 1 = 0 → s.judge p i.1 img = .taken .accepted (.release i))
    ∧ ((s.port p).role = .remote → imageByte img 1 ≤ 2 → s.judge p i.1 img = .refused .notOwner)
    ∧ ((s.port p).role = .vehicle → imageByte img 1 = 0 ∨ (imageByte img 1 = 3 ∧ imageByte img 3 = 1) →
      s.judge p i.1 img = .refused .notOwner)

/-- R13, R65, R73, R184: a fetch fills the shadow half with the image of its record, by the tables of 11.5; one of a measurement record also clears the two
flags of the port; one of record 124 carries the oldest reading away and clears the overrun flag, or is EMPTY; one of an unlisted number
gives BAD_RECORD and zeros. That a minute begun counts as one in the minutes shown, with a running timer at 0 ms, whose expiry is due, shown as 1
(log entry 4), and that a retry timer which is stopped and the MOTION value of an absent operation are shown as 0 (log entry 18), are the
model's readings. -/
def Obligations.FetchCompletionFillsTheShadow : Prop :=
  let w (n : Nat) : List Byte := [byteOf (n / 256), byteOf n]
  let long (n : Nat) : List Byte := w (n / 65536) ++ w n
  let flag (b : Bool) : Byte := if b then 1 else 0
  let orNone (n : Option Nat) : Byte := byteOf (n.getD 255)
  let record (k : Option (Fin 24)) : Byte := orNone (k.map fun k => 64 + k.1)
  let channelNo (c : Option (Fin 16)) : Byte := orNone (c.map fun c => c.1)
  let portNo (p : PortId) : Nat := match p with | .cp0 => 0 | .cp1 => 1 | .cp2 => 2
  let minutes (ms : Nat) : Nat := if ms = 0 then 1 else (ms + 59999) / 60000
  let operation (o : Option Operation) : List Byte :=
    match o with
    | some o => [byteOf o.entry.1, byteOf (match o.value with | .extend => 0 | .retract => 1 | .stop => 2 | .position _ => 3)]
    | none => [255, 0]
  ∀ (s : State) (p : PortId) (r : Nat), s.engine.transfer = some { port := p, request := .fetch r } →
    let x := s.port p
    let filled (result : FetchResult) (bytes : List Byte) : State :=
      (s.setEngine { s.engine with transfer := none }).setPort p
        { x with
          readout :=
            { x.readout with
              state := .ready
              shadow := { record := some r, result := result, image := Vector.ofFn fun i => bytes.getD i.1 0 } } }
    let shows (bytes : List Byte) : Prop := exec .fetchCompletion s = .next (filled .fetched bytes)
    (∀ i : Fin 48, r = i.1 →
      let e := s.entry i
      let f := e.fields
      shows
        ([byteOf f.channel.1, byteOf f.demand.code]
          ++ (match f.demand with
              | .none => [0, 0, 0]
              | .level l => w l ++ [0]
              | .setpoint t => w (twos16 t) ++ [0]
              | .motion .extend => [0, 0, 0]
              | .motion .retract => [0, 1, 0]
              | .motion .stop => [0, 2, 0]
              | .motion (.position n) => [0, 3, byteOf n])
          ++ [byteOf f.cls.1, byteOf f.persistence.code] ++ w f.holdTime
          ++ [ byteOf f.slotFirst, byteOf f.slotSpan, byteOf f.repetition, byteOf f.base, byteOf f.arm.code
             , byteOf e.state.code, byteOf e.reason.code, orNone (e.owner.map portNo), orNone e.grantedLevel
             , byteOf e.starvation, flag e.calling ]
          ++ w e.runs ++ w ((e.holdTimer.map minutes).getD 65535)))
    ∧ (∀ k : Fin 24, r = 64 + k.1 →
      let m := s.measRec k
      exec .fetchCompletion s
        = .next ((filled .fetched
              ([byteOf m.desc.address, byteOf m.desc.channel, byteOf m.desc.kind.code, byteOf m.desc.staleLimit]
                ++ w (twos16 m.value) ++ w m.filtered ++ w m.accumulator
                ++ [ byteOf m.freshness.code, byteOf m.age, flag (m.unread.get p), flag (m.lost.get p), byteOf m.updates ])).setMeas k
            { m with unread := m.unread.set p false, lost := m.lost.set p false }))
    ∧ (∀ c : Fin 16, r = 96 + c.1 →
      let y := s.channel c
      shows
        ([byteOf y.desc.kind.code, byteOf y.desc.nominal] ++ w y.desc.trip ++ [byteOf y.desc.rampRate] ++ w y.desc.inrushTime
          ++ [byteOf y.state.code, byteOf y.target, byteOf y.present, byteOf y.tripCount] ++ w y.cleanTime
          ++ w (y.retryTimer.getD 0) ++ [flag y.inrush.isSome]))
    ∧ (r = 112 →
      let a := s.account
      shows
        (w a.seed ++ w (a.lastSeed.getD 65535) ++ long a.charge ++ w a.residue ++ w a.factor
          ++ [byteOf (twos16 a.temperature)] ++ long a.effective ++ w a.soc
          ++ [byteOf a.tier.code, flag a.synced, flag a.gap, flag a.hold] ++ long a.tail ++ [byteOf a.lowVoltage]
          ++ w a.reports))
    ∧ (r = 113 →
      let b := s.budget
      shows
        (w b.sourceSum ++ w b.allowance ++ w b.budget ++ w b.exemptSum ++ [byteOf b.reserve] ++ w b.steadyTotal
          ++ w (twos16 b.headroom) ++ [orNone (b.run.map fun r => r.entry.1)] ++ w b.evaluations
          ++ (List.finRange 16).flatMap fun c =>
            w (((s.row c).entry.map fun i => i.1).getD 63 * 1024 + (s.row c).sensed)))
    ∧ (r = 114 →
      let q := s.battery
      let allowances := q.allowNormal * 2 ^ 37 + q.allowConserve * 2 ^ 26 + q.allowEssential * 2 ^ 15 + q.allowProtect * 2 ^ 4
      shows
        (w q.capacityAh ++ [byteOf q.efficiency, byteOf q.derating] ++ w q.fullVoltage ++ w q.tailCurrent ++ w q.tailTime
          ++ w q.protectVoltage ++ [byteOf q.protectCount] ++ long (q.t1 * 2 ^ 22 + q.t2 * 2 ^ 12 + q.t3 * 2 ^ 2)
          ++ [byteOf q.hysteresis] ++ long (allowances / 65536) ++ w allowances ++ w q.busLimit ++ w q.maxInterval
          ++ [record q.current, record q.voltage, record q.temperature, record q.interval]))
    ∧ (r = 115 →
      let m := s.modeCtl
      shows
        [ byteOf m.requested.code, byteOf m.mode.code, flag m.batteryCommitted, flag m.shuntBound, flag m.configured, flag m.stale
        , byteOf m.lastRequest.code, orNone (m.lastPort.map portNo), byteOf m.lastOutcome.code ])
    ∧ (r = 116 → shows [flag s.modeCtl.ignition, flag s.modeCtl.moving])
    ∧ (r = 117 →
      let st := s.step
      let aw := s.awning
      shows
        ([byteOf st.state.code] ++ operation st.operation
          ++ [flag st.autoReturn, byteOf st.timeouts, byteOf st.jamRetry.code, byteOf aw.state.code] ++ operation aw.operation
          ++ w aw.count ++ w (match aw.target with | some (.count n) => n | some .home => 65534 | none => 65535)
          ++ [byteOf aw.stallRetry.code] ++ w aw.lastDrift
          ++ [ byteOf (s.channel 14).pendingDir.code, byteOf (s.channel 15).pendingDir.code, byteOf s.wind.runCount
             , byteOf ((s.wind.holdTimer.map minutes).getD 0), byteOf s.windKnown.code, flag s.stepBlocked
             , flag s.awningBlocked, flag s.ready ]))
    ∧ (r = 118 →
      let q := s.motionParams
      shows
        ([byteOf q.stepTravelMax] ++ w q.stepJamCurrent ++ [byteOf q.stepJamTime] ++ w q.pmax
          ++ [byteOf q.stallInterval, byteOf q.syncSlack, byteOf q.awningTravelTimeout, record q.wind] ++ w q.windLimit
          ++ [byteOf q.windCount] ++ w q.gustLimit ++ [byteOf q.windHoldTime]))
    ∧ (r = 119 →
      let z := s.frost
      shows
        [ flag z.requested, byteOf z.state.code, byteOf z.cause.code
        , byteOf
            ((if z.heater.starved then 1 else 0) + (if z.heater.tier then 2 else 0) + (if z.heater.lockedOut then 4 else 0)
              + if z.heater.noChannel then 8 else 0)
        , byteOf ((z.drainTimer.map minutes).getD 0) ])
    ∧ (r = 120 →
      let q := s.frostParams
      shows
        ([ flag q.enable, record q.tank, record q.outside, record q.fresh, record q.grey, channelNo q.valve, channelNo q.heater
         , channelNo q.pump ]
          ++ w (twos16 q.watchTemp) ++ w (twos16 q.holdTemp) ++ w (twos16 q.dumpTemp) ++ w (twos16 q.closeTemp)
          ++ [byteOf q.starvationLimit, byteOf q.drainTime, byteOf q.slotFirst, byteOf q.slotSpan] ++ w q.dryLevel
          ++ w q.greyFull))
    ∧ (r = 121 →
      let z := s.sched
      shows
        ([byteOf z.slotLength, record z.cabin, byteOf z.slot, byteOf z.cycle]
          ++ match z.decision with
            | some d => [byteOf d.verdict.code, orNone (d.owner.map fun i => i.1), byteOf d.reason.code]
            | none => [0, 255, 0]))
    ∧ (r = 122 →
      let l := s.line
      shows
        ([ byteOf l.shuntAddress, flag l.queueEnable, byteOf l.windowLow, byteOf l.windowHigh, byteOf l.shunt.failures
         , byteOf l.shunt.health.code, byteOf l.shunt.lastFault.code, byteOf l.pointer.1 ] ++ w l.periodCount))
    ∧ (r = 124 →
      let q := s.queue
      let a := vget q.places q.get
      (q.fill = 0 → exec .fetchCompletion s = .next (filled .empty []))
      ∧ (0 < q.fill →
        exec .fetchCompletion s
          = .next
              { filled .fetched
                  ([byteOf a.reading.address, byteOf a.reading.channel, byteOf a.reading.kind.code]
                    ++ w (twos16 a.reading.value) ++ w a.arrival ++ [byteOf (q.fill - 1), flag q.overrun])
                with queue := { q with get := q.get + 1, fill := q.fill - 1, overrun := false } }))
    ∧ (∀ j : Fin 32, r = 128 + j.1 →
      let e := s.poll j
      shows
        [ byteOf e.address, byteOf e.sender.failures, byteOf e.sender.health.code, byteOf e.skip
        , byteOf e.sender.lastFault.code ])
    ∧ (recordOf r = none → exec .fetchCompletion s = .next (filled .badRecord []))

/-! ### Chapter 2 -/

/-- R16, R17, R19, R30 to R33, R69, R70, R169: a STORAGE and a PARKED request, by the mode, the role and the flags; and a request that is taken writes the mode
record, posts a MODE notice where it changes the mode and none where it does not, and leaves the client entries their fields and owners. Into
TRAVEL it seeds the filter of every LEVEL record that is not STALE (log entry 36), arms entry 2 unless the step is RETRACTED and leaves no step
EXTENDED; out of SETUP it arms entry 3 unless the awning is RETRACTED, where the wind hold is active or the wind UNKNOWN; and it leaves the
measurement records and both entries as they were otherwise. A commit of the mode record is NOT_PERMITTED from a role that may not make the
request, BAD_FIELD where its code is undefined, and judged as the request otherwise. -/
def Obligations.StorageRequestByMode : Prop :=
  (∀ (s : State) (p : PortId), (s.port p).role = .panel ∨ (s.port p).role = .remote →
    let role := (s.port p).role
    (s.mode = .parked →
      s.judgeRequest role .storage = .taken .storage .changed
        ∧ (s.obey p (.mode .storage)).mode = .storage ∧ (s.obey p (.mode .storage)).modeCtl.lastOutcome = .changed)
    ∧ (s.mode = .storage →
      s.judgeRequest role .storage = .taken .storage .unchanged
        ∧ (s.obey p (.mode .storage)).mode = .storage ∧ (s.obey p (.mode .storage)).modeCtl.lastOutcome = .unchanged)
    ∧ (s.mode = .setup ∨ s.mode = .travel → s.judgeRequest role .storage = .refused .wrongMode)
    ∧ (s.mode = .setup →
      (role = .remote → s.judgeRequest role .parked = .refused .notPermitted)
      ∧ (role = .panel →
        (s.modeCtl.configured = false → s.judgeRequest role .parked = .refused .notConfigured)
        ∧ (s.modeCtl.configured = true →
          (s.modeCtl.ignition = false ∧ s.modeCtl.moving = false → s.judgeRequest role .parked = .taken .parked .changed)
          ∧ (s.modeCtl.ignition = true ∨ s.modeCtl.moving = true → s.judgeRequest role .parked = .taken .travel .diverted))))
    ∧ (s.mode = .parked → s.judgeRequest role .parked = .taken .parked .unchanged)
    ∧ (s.mode = .storage → s.judgeRequest role .parked = .taken .parked .changed)
    ∧ (s.mode = .travel → s.judgeRequest role .parked = .refused .wrongMode))
  ∧ (∀ (s : State) (p : PortId) (r : ModeRequest) (m : Mode) (o : RequestOutcome),
      r = .parked ∨ r = .storage → s.judgeRequest (s.port p).role r = .taken m o →
      let t := s.obey p (.mode r)
      t.modeCtl =
          { s.modeCtl with mode := m, requested := r, lastRequest := r, lastPort := some p, lastOutcome := o }
      ∧ tells s t .mode (fun _ =>
          if m = s.mode then [] else [{ kind := .mode, subject := 115, value := s.mode.code * 256 + m.code }])
      ∧ sameElsewhere s t ∧ sameClients s t ∧ t.sched = s.sched ∧ t.wind = s.wind ∧ t.switches = s.switches
      ∧ (∀ k : Fin 24, t.measRec k = refiltered s.mode m (s.measRec k))
      ∧ (let enters : Prop := s.mode ≠ .travel ∧ m = .travel
        let unsure : Prop :=
          s.wind.holdTimer.isSome
            ∨ ∃ k, s.motionParams.wind = some k ∧ ((s.measRec k).desc.kind = .wind → (s.measRec k).freshness ≠ .fresh)
        let leaves : Prop := s.mode = .setup ∧ m ≠ .setup ∧ unsure
        (enters → s.step.state ≠ .retracted → forcedIn t 2 14)
        ∧ (leaves → s.awning.state ≠ .retracted → forcedIn t 3 15)
        ∧ (enters → t.step.state ≠ .extended)
        ∧ (¬ enters ∨ s.step.state = .retracted → keptAsItWas s t 2)
        ∧ (¬ leaves ∨ s.awning.state = .retracted → keptAsItWas s t 3)))
  ∧ (∀ (s : State) (p : PortId) (img : Vector Byte 32),
      let role := (s.port p).role
      let code := imageByte img 0
      let request : ModeRequest := if code = 1 then .parked else if code = 3 then .storage else .restart
      judgedInOrder s p 115 img (role = .vehicle ∨ role = .disabled ∨ (role = .remote ∧ code ≠ 1 ∧ code ≠ 3)) False
        (code ≠ 1 ∧ code ≠ 3 ∧ code ≠ 4)
        ((∀ r, s.judgeRequest role request = .refused r → s.judge p 115 img = .refused r)
          ∧ ∀ m o, s.judgeRequest role request = .taken m o → s.judge p 115 img = .taken .accepted (.mode request)))

/-- R16, R17, R19, R31, R34 to R37, R69, R70, R169: at its expiry the vehicle timer stops, and vehicle stale is set with a VEHICLE notice where the ignition is ON and it was clear;
a taken vehicle commit writes the vehicle record, restarts the vehicle timer, clears staleness with a VEHICLE notice and sets
the mode with a MODE notice where it changes; outside SETUP moving YES arms entry 2 unless the step is RETRACTED and entry 3 unless the
awning is, and entry into TRAVEL arms entry 2 likewise and leaves no step EXTENDED; entry into TRAVEL seeds the filter of every LEVEL record that is
not STALE, and leaving it sets its filtered value to its value (log entry 36), the measurement records staying as they are otherwise; clients'
entries keep their fields and owners, and the account, the line and the parameters are untouched. A commit of the vehicle record is NOT_PERMITTED from any
other role in every mode, BAD_FIELD where a code is undefined, and ACCEPTED otherwise. -/
def Obligations.VehicleRecordSetsModeAndStaleness : Prop :=
  (∀ s : State, s.modeCtl.vehicleTimer.isSome →
     (s.modeCtl.ignition = true → s.modeCtl.stale = false →
       exec .vehicleTimerExpiry s
         = .next ((s.setModeCtl { s.modeCtl with vehicleTimer := none, stale := true }).postAll
             { kind := .vehicle, subject := 116, value := 1 }))
     ∧ (s.modeCtl.ignition = false ∨ s.modeCtl.stale = true →
       exec .vehicleTimerExpiry s = .next (s.setModeCtl { s.modeCtl with vehicleTimer := none })))
  ∧ (∀ (s : State) (p : PortId) (ignition moving : Bool),
     let t := s.obey p (.vehicle ignition moving)
     sameElsewhere s t ∧ sameClients s t ∧ t.sched = s.sched ∧ t.switches = s.switches
     ∧ t.modeCtl =
       { s.modeCtl with
         ignition := ignition, moving := moving, stale := false, vehicleTimer := some 5000
         mode :=
           match s.mode, ignition || moving with
           | .setup, _ => .setup
           | .parked, true | .storage, true | .travel, true => .travel
           | .travel, false => .parked
           | .parked, false => .parked
           | .storage, false => .storage }
     ∧ tells s t .mode (fun _ =>
         if t.mode = s.mode then [] else [{ kind := .mode, subject := 115, value := s.mode.code * 256 + t.mode.code }])
     ∧ tells s t .vehicle (fun _ => if s.modeCtl.stale then [{ kind := .vehicle, subject := 116, value := 0 }] else [])
     ∧ (let enters : Prop := (s.mode = .parked ∨ s.mode = .storage) ∧ (ignition || moving) = true
       let moves : Prop := moving = true ∧ s.mode ≠ .setup
       (enters ∨ moves → s.step.state ≠ .retracted → forcedIn t 2 14)
       ∧ (moves → s.awning.state ≠ .retracted → forcedIn t 3 15)
       ∧ (enters → t.step.state ≠ .extended)
       ∧ (¬ (enters ∨ moves) ∨ s.step.state = .retracted → keptAsItWas s t 2)
       ∧ (¬ moves ∨ s.awning.state = .retracted → keptAsItWas s t 3))
     ∧ ∀ k : Fin 24, t.measRec k = refiltered s.mode t.mode (s.measRec k))
  ∧ (∀ (s : State) (p : PortId) (img : Vector Byte 32),
      let b (k : Nat) : Nat := imageByte img k
      judgedInOrder s p 116 img ((s.port p).role ≠ .vehicle) False (1 < b 0 ∨ 1 < b 1)
        (s.judge p 116 img = .taken .accepted (.vehicle (b 0 = 1) (b 1 = 1))))

/-- R38 to R40, R70, R105, R138, R152, R172: a RESTART sets SETUP with a MODE notice in every mode, frees entries 2 to 47, ends the run, clears the decision and every lockout, posts the ENTRY
notices of what it frees and changes, and keeps the configuration, the account, the line, the reading queue, the vehicle record and the flags. The
measurement records are kept, but for the filtered level that R70 sets at a RESTART out of TRAVEL (the model's reading, log entry 35). Both
bridges, the run being on neither, are stopped with no direction pending, and both machines stand as their switches say with no operation, the last drift count kept. That
a TRIPPED bridge keeps its running retry timer, where R39 and R154 differ, is the model's choice (log entry 33), and that the ENTRY notices of
the freed entries carry reason NONE is its reading (log entry 14). -/
def Obligations.RestartFreesAndKeeps : Prop :=
  ∀ (s : State) (p : PortId),
    let t := s.obey p (.mode .restart)
    t.modeCtl =
        { s.modeCtl with
          mode := .setup, requested := .restart, lastRequest := .restart, lastPort := some p, lastOutcome := .restarted }
    ∧ (∀ i : Fin 48, 2 ≤ i.1 → (t.entry i).state = .free)
    ∧ t.budget.run = none ∧ t.sched = { s.sched with decision := none }
    ∧ (∀ c : Fin 16, (t.channel c).state ≠ .lockedOut ∧ (t.channel c).desc = (s.channel c).desc)
    ∧ t.wind = { runCount := 0, holdTimer := none }
    ∧ tells s t .mode (fun _ => [{ kind := .mode, subject := 115, value := s.mode.code * 256 + Mode.setup.code }])
    ∧ tells s t .entry (entryNotices s t .none)
    ∧ sameElsewhere s t ∧ t.switches = s.switches
    ∧ (∀ k : Fin 24,
      let m := s.measRec k
      t.measRec k =
        { m with
          filtered := if s.mode = .travel ∧ m.desc.kind = .level ∧ m.freshness ≠ .stale then m.value.toNat else m.filtered })
    ∧ (kindsLaw s → heavyLaw s → internalLaw s →
      t.step =
          { state := stepAtRest t, operation := none, autoReturn := false, timeouts := 0, jamRetry := .none, jamRun := 0
            travelTimer := none, retryTimer := none }
      ∧ t.awning =
          { state := awningAtRest s, operation := none, count := if s.switches.awningIn then 0 else s.motionParams.pmax
            target := none, stallRetry := .none, lastDrift := s.awning.lastDrift, lastDrive := .none, stallTimer := none
            travelTimer := none, retryTimer := none }
      ∧ ∀ c : Fin 16, 14 ≤ c.1 →
        let x := bridgeStopped (s.channel c)
        t.channel c = if x.state = .lockedOut then { x with state := .stopped, tripCount := 0, cleanTime := 0 } else x)

/-! ### Chapter 3 -/

/-- R44, R64, R66, R67, R92, R106, R116, R128, R176: the poll-period start counts, ages every bound measurement record, posts a STALE notice of each that goes stale, in ascending
number, and makes the shunt poll and six list polls due; where no record goes stale it changes nothing else. The consumers of a record that goes
stale are informed: hold is set where it is the designated CURRENT record, and not otherwise; the SETPOINT entries that the cabin or the tank
record stands for do not call; a tank record that goes stale in WATCH or HEATING with the outside cold leads to DUMPING, or on to DRAINED; the
budget leaves a HEADROOM record out; and the winner of the pump channel is BLOCKED where the fresh level record goes stale. -/
def Obligations.PollPeriodStartAgesTheRecords : Prop :=
  (∀ s : State, ∃ t, exec .pollPeriodStart s = .next t
      ∧ t.line =
          { s.line with
            periodCount := if s.line.periodCount ≥ 65535 then 0 else s.line.periodCount + 1
            pollTimer := 250, shuntDue := true, listAllowed := 6, considered := 0 }
      ∧ t.engine = s.engine ∧ t.modeCtl = s.modeCtl ∧ t.polls = s.polls ∧ t.queue = s.queue ∧ t.battery = s.battery
      ∧ t.motionParams = s.motionParams ∧ t.frostParams = s.frostParams ∧ t.switches = s.switches ∧ t.sched = s.sched
      ∧ sameClients s t
      ∧ (∀ k : Fin 24,
        let m := s.measRec k
        t.measRec k =
          if m.desc.address = 0 then m
          else
            { m with
              age := min 240 (m.age + 1)
              freshness :=
                if m.freshness = .fresh ∧ (m.desc.staleLimit < min 240 (m.age + 1) ∨ 240 ≤ m.age) then .stale
                else m.freshness })
      ∧ (let lapses : Prop :=
          ∃ k, s.battery.current = some k ∧ (s.measRec k).desc.kind = .current ∧ (s.measRec k).freshness = .fresh
            ∧ (t.measRec k).freshness = .stale
        (lapses → t.account = { s.account with hold := true }) ∧ (¬ lapses → t.account = s.account))
      ∧ tells s t .stale (fun _ =>
          ((List.finRange 24).filter fun k =>
            (s.measRec k).freshness = .fresh ∧ (t.measRec k).freshness = .stale).map fun k =>
              { kind := .stale, subject := 64 + k.1, value := ((s.measRec k).value % 65536).toNat })
      ∧ (let lapses (d : Option (Fin 24)) : Prop :=
          ∃ k, d = some k ∧ (s.measRec k).freshness = .fresh ∧ (t.measRec k).freshness = .stale
        let q := s.frostParams
        let cold : Prop :=
          ∀ l, q.outside = some l → (s.measRec l).desc.kind = .temperature → (s.measRec l).freshness ≠ .never →
            (s.measRec l).value ≤ q.watchTemp
        let headroom : Fin 24 → Bool := fun k => (t.measRec k).desc.kind = .headroom ∧ (t.measRec k).freshness = .fresh
        (lapses s.sched.cabin → ∀ i : Fin 48, 4 ≤ i.1 → (s.entry i).state ≠ .free →
          (s.channel (s.entry i).fields.channel).desc.kind = .heavy → (∃ n, (s.entry i).fields.demand = .setpoint n) →
          (t.entry i).calling = false)
        ∧ (lapses q.tank → (s.entry 0).state ≠ .free → (s.channel (s.entry 0).fields.channel).desc.kind = .heavy →
          (∃ n, (s.entry 0).fields.demand = .setpoint n) → (t.entry 0).calling = false)
        ∧ (lapses q.tank → cold → s.frost.state = .watch ∨ s.frost.state = .heating →
          (t.frost.state = .dumping ∨ t.frost.state = .drained) ∧ (t.entry 0).state = .free ∧ (t.entry 1).state = .free
          ∧ ((∀ j, (s.measRec j).freshness = .fresh → (t.measRec j).freshness = .stale → q.tank = some j) →
            (∀ k, q.tank = some k → (s.measRec k).desc.kind = .temperature) → t.frost.cause = .noProbe))
        ∧ ((∃ k, (s.measRec k).desc.kind = .headroom ∧ lapses (some k)) →
          t.budget.sourceSum = (((List.finRange 24).filter headroom).map fun k => (t.measRec k).value.toNat).sum
          ∧ t.budget.budget = min s.battery.busLimit (t.budget.sourceSum + t.budget.allowance))
        ∧ (lapses q.fresh → t.owed = false → ∀ (c : Fin 16) (i : Fin 48), q.pump = some c → c.1 < 14 → 4 ≤ i.1 →
          (t.channel c).desc.kind.steady = true → t.wins i = true → (t.entry i).fields.channel = c →
          (∃ l, (t.entry i).fields.demand = .level l) → (t.entry i).state = .blocked)))
  ∧ (∀ s : State,
      (∀ k : Fin 24, (s.measRec k).desc.address = 0 ∨ (s.measRec k).freshness ≠ .fresh
          ∨ ((s.measRec k).age < 240 ∧ (s.measRec k).age + 1 ≤ (s.measRec k).desc.staleLimit)) →
      exec .pollPeriodStart s = .next
        { s with
          line :=
            { s.line with
              periodCount := if s.line.periodCount ≥ 65535 then 0 else s.line.periodCount + 1
              pollTimer := 250, shuntDue := true, listAllowed := 6, considered := 0 }
          meas := s.meas.map fun m => if m.desc.address = 0 then m else { m with age := min 240 (m.age + 1) } })

/-- R42, R45 to R48: the shunt poll that is due is sent, or dropped at shunt address 0; the list poll of a sender that is not ABSENT is sent and
counted; an ABSENT sender at its fifteenth consideration is polled with its skip count loaded with 15; an entry of address 0, and an ABSENT one
before that, its skip count counted down, is passed over, and the pass goes on at the next, as far as 32 entries in the period; and no poll begins
while the line is not IDLE, has a transaction, or holds its quiet time, no list poll while the shunt poll is due or none is allowed. That the
line is RECEIVING with its response window open as soon as the poll is sent, the state SENDING being passed through within the command, is the
model's choice (log entry 6). -/
def Obligations.PollsAreSent : Prop :=
  (∀ s : State, s.line.state = .idle → s.line.transaction = none → s.line.quiet = 0 →
    let sent (l : LineControl) (source : PollSource) (a : Nat) : LineControl :=
      { l with
        state := .receiving, windowTimer := some 8, gapTimer := none
        transaction := some { address := a, source := source, received := [], check := 0 }
        sent := [BitVec.ofNat 9 (256 + a % 256), BitVec.ofNat 9 165] }
    let j := s.line.pointer
    let e := s.poll j
    let considered : LineControl :=
      { s.line with pointer := j + 1, considered := s.line.considered + 1, listAllowed := s.line.listAllowed - 1 }
    let passed : State := s.setLine { s.line with pointer := j + 1, considered := s.line.considered + 1 }
    (s.line.shuntDue = true →
      (s.line.shuntAddress = 0 → exec .shuntPoll s = .next (s.setLine { s.line with shuntDue := false }))
      ∧ (s.line.shuntAddress ≠ 0 →
        exec .shuntPoll s = .next (s.setLine (sent { s.line with shuntDue := false } .shunt s.line.shuntAddress))))
    ∧ (s.line.shuntDue = false → 0 < s.line.listAllowed → s.line.considered < 32 →
      (e.address ≠ 0 →
        (e.sender.health ≠ .absent →
          exec .listPoll s = .next (s.setLine (sent considered (.entry j) e.address)))
        ∧ (e.sender.health = .absent → e.skip = 1 →
          exec .listPoll s = .next ((s.setPoll j { e with skip := 15 }).setLine (sent considered (.entry j) e.address)))
        ∧ (e.sender.health = .absent → 1 < e.skip →
          exec .listPoll s = exec .listPoll (passed.setPoll j { e with skip := e.skip - 1 })))
      ∧ (e.address = 0 → exec .listPoll s = exec .listPoll passed))
    ∧ (s.line.shuntDue = true ∨ s.line.listAllowed = 0 ∨ 32 ≤ s.line.considered → exec .listPoll s = .next s))
  ∧ (∀ s : State, s.line.state ≠ .idle ∨ s.line.transaction.isSome ∨ 0 < s.line.quiet →
      exec .shuntPoll s = .next s ∧ exec .listPoll s = .next s)

/-- R42, R43, R49 to R54, R56, R57: a data character that neither fails nor ends the response is kept, with the check brought up to date; a poll whose check
character is right is good: its sender becomes PRESENT where its address still stands, its readings, by the layout of 11.3, are dispatched in the
order received, and after a shunt poll a shunt report is formed where each of the four designated records received one; the shunt poll
ends failed at a ninth bit of 1, a count above 4, a wrong check, the end of the response window and a gap. That all of a response is
dispatched in one step is the model's choice (log entry 34). -/
def Obligations.ShuntPollRunsToItsEnd : Prop :=
  (∀ (s : State) (x : Transaction) (b : Byte), s.line.transaction = some x →
      (x.received = [] ∧ b.toNat ≤ 4) ∨ (∃ n body, x.received = n :: body ∧ body.length < 3 * n.toNat) →
      exec (.responseCharacter (BitVec.ofNat 9 b.toNat)) s
        = .next (s.setLine
            { s.line with
              transaction := some { x with received := x.received ++ [b], check := checkAfter x.check b }
              windowTimer := none
              gapTimer := some 2 }))
  ∧ (∀ (s : State) (x : Transaction) (c : LineChar) (b : Byte), s.line.transaction = some x → x.source = .shunt →
      s.line.shuntAddress = x.address →
      let ended : LineControl := { s.line with state := .idle, transaction := none, quiet := 2, windowTimer := none, gapTimer := none }
      let n := min 3 (s.line.shunt.failures + 1)
      let failed (f : PollFault) : State :=
        s.setLine { ended with shunt := { failures := n, health := if n = 3 then .absent else .suspect, lastFault := f } }
      (x.received = [0] → b = x.check →
        exec (.responseCharacter (BitVec.ofNat 9 b.toNat)) s
          = .next (s.setLine { ended with shunt := { failures := 0, health := .present, lastFault := .none } }))
      ∧ (c.msb = true → exec (.responseCharacter c) s = .next (failed .addressBit))
      ∧ (x.received = [] → 4 < b.toNat → exec (.responseCharacter (BitVec.ofNat 9 b.toNat)) s = .next (failed .count))
      ∧ (∀ m body, x.received = m :: body → body.length = 3 * m.toNat → b ≠ x.check →
          exec (.responseCharacter (BitVec.ofNat 9 b.toNat)) s = .next (failed .check))
      ∧ (s.line.windowTimer.isSome → exec .responseWindowExpiry s = .next (failed .silent))
      ∧ (s.line.gapTimer.isSome → exec .gapExpiry s = .next (failed .gap)))
  ∧ (∀ (s : State) (x : Transaction) (n : Byte) (body : List Byte), s.line.transaction = some x →
      x.received = n :: body → body.length = 3 * n.toNat →
      let sound : SenderHealth := { failures := 0, health := .present, lastFault := .none }
      let ended : State :=
        s.setLine { s.line with state := .idle, transaction := none, quiet := 2, windowTimer := none, gapTimer := none }
      let judged : State :=
        match x.source with
        | .shunt => if s.line.shuntAddress = x.address then ended.setLine { ended.line with shunt := sound } else ended
        | .entry j =>
          if (s.poll j).address = x.address then
            let t := ended.setPoll j { address := x.address, sender := sound, skip := 0 }
            if (s.poll j).sender.health = .absent then
              t.postPanels { kind := .sender, subject := 128 + j.1, value := 2 * 256 + 0 }
            else t
          else ended
      let reading (k : Nat) : Option Reading :=
        let head := (body.getD (3 * k) 0).toNat
        let raw := (body.getD (3 * k + 1) 0).toNat * 256 + (body.getD (3 * k + 2) 0).toNat
        let signed : Int := if raw < 32768 then (raw : Int) else (raw : Int) - 65536
        let carries (kind : MeasKind) (v : Int) : Option Reading :=
          some { address := x.address, channel := head % 8, kind := kind, value := v }
        if head < 128 then none
        else
          match head / 16 % 8 with
          | 0 => carries .temperature signed
          | 1 => carries .level raw
          | 2 => carries .current signed
          | 3 => carries .voltage raw
          | 4 => carries .interval raw
          | 5 => carries .headroom raw
          | 6 => carries .wind raw
          | _ => none
      let rs := (List.range n.toNat).filterMap reading
      let t := rs.foldl State.dispatch judged
      exec (.responseCharacter (BitVec.ofNat 9 x.check.toNat)) s
        = .next (if x.source = .shunt then t.formShuntReport rs else t))
  ∧ (∀ (s : State) (rs : List Reading),
      let reached (d : Option (Fin 24)) (kind : MeasKind) : Prop :=
        ∃ k r, d = some k ∧ (s.measRec k).desc.kind = kind ∧ r ∈ rs ∧ s.matchOf r = some k
      let q := s.battery
      let all : Prop :=
        reached q.current .current ∧ reached q.voltage .voltage ∧ reached q.temperature .temperature
          ∧ reached q.interval .interval
      (¬ all → s.formShuntReport rs = s)
      ∧ (all → ∀ kc kv kt ki,
          q.current = some kc → q.voltage = some kv → q.temperature = some kt → q.interval = some ki →
          s.formShuntReport rs
            = s.shuntReport
                { current := (s.measRec kc).value, voltage := (s.measRec kv).value, temperature := (s.measRec kt).value
                  interval := (s.measRec ki).value }))

/-- R50, R53, R56: a list poll that ends SILENT, or with GAP, ADDRESS_BIT, COUNT or CHECK, counts against its sender, which becomes ABSENT at the third failure, with
its skip count loaded and a SENDER notice to the PANEL ports; and where the address of the entry has changed meanwhile it counts against none. -/
def Obligations.FailedListPollCountsAgainstItsSender : Prop :=
  ∀ (s : State) (x : Transaction) (j : Fin 32), s.line.transaction = some x → x.source = .entry j →
    let h := (s.poll j).sender
    let ended : State :=
      s.setLine { s.line with state := .idle, transaction := none, quiet := 2, windowTimer := none, gapTimer := none }
    let early (f : PollFault) : State :=
      ended.setPoll j
        { s.poll j with sender := { failures := h.failures + 1, health := .suspect, lastFault := f } }
    let third (f : PollFault) : State :=
      (ended.setPoll j
          { s.poll j with sender := { failures := 3, health := .absent, lastFault := f }, skip := 15 }).postPanels
        { kind := .sender, subject := 128 + j.1, value := Health.suspect.code * 256 + Health.absent.code }
    let again (f : PollFault) : State :=
      ended.setPoll j { s.poll j with sender := { failures := 3, health := .absent, lastFault := f } }
    let after (f : PollFault) : State :=
      if (s.poll j).address ≠ x.address then ended
      else if h.failures < 2 then early f else if h.failures = 2 then third f else again f
    (s.poll j).address ≠ x.address ∨ soundHealth (s.poll j).sender →
    (s.line.windowTimer.isSome → exec .responseWindowExpiry s = .next (after .silent))
    ∧ (s.line.gapTimer.isSome → exec .gapExpiry s = .next (after .gap))
    ∧ (∀ c : LineChar, c.msb = true → exec (.responseCharacter c) s = .next (after .addressBit))
    ∧ (∀ b : Byte,
      (x.received = [] → 4 < b.toNat → exec (.responseCharacter (BitVec.ofNat 9 b.toNat)) s = .next (after .count))
      ∧ (∀ n body, x.received = n :: body → body.length = 3 * n.toNat → b ≠ x.check →
        exec (.responseCharacter (BitVec.ofNat 9 b.toNat)) s = .next (after .check)))

/-- R42: a character outside a transaction is discarded, and restarts a quiet time that runs. That no quiet time opens anew once it is over, and
that a RESPONSE_CHARACTER without a transaction is such a character, are the model's choices (log entry 8). -/
def Obligations.StrayCharacterIsDiscarded : Prop :=
  ∀ (s : State) (c : LineChar), s.line.transaction = none →
    (0 < s.line.quiet → exec (.strayCharacter c) s = .next (s.setLine { s.line with quiet := 2 })
        ∧ exec (.responseCharacter c) s = .next (s.setLine { s.line with quiet := 2 }))
    ∧ (s.line.quiet = 0 → exec (.strayCharacter c) s = .next s ∧ exec (.responseCharacter c) s = .next s)

/-- R51: two responses of the same length that differ in exactly one character have different checks. -/
def Obligations.CheckDetectsOneWrongCharacter : Prop :=
  ∀ (before after : List Byte) (a b : Byte), a ≠ b →
    (before ++ a :: after).foldl checkAfter 0 ≠ (before ++ b :: after).foldl checkAfter 0

/-! ### Chapter 4 -/

/-- R61, R62, R72: a reading is clamped to its kind, and goes to the lowest-numbered record that matches it, else to the reading queue where the
queue is enabled and its window holds the address, else nowhere; a reading that is queued is put with its arrival count, and posts a QUEUE
notice to the PANEL ports where it finds the queue empty. -/
def Obligations.DispatchOffersTheReading : Prop :=
  (∀ (s : State) (r : Reading),
    let limit (low high : Int) : Int := if r.value < low then low else if high < r.value then high else r.value
    let v : Int :=
      match r.kind with
      | .temperature => limit (-400) 850
      | .level => limit 0 1000
      | .current => limit (-32768) 32767
      | .voltage | .interval => limit 0 65535
      | .headroom => limit 0 2000
      | .wind => limit 0 600
    let fits (k : Fin 24) : Prop :=
      (s.measRec k).desc.address = r.address ∧ (s.measRec k).desc.channel = r.channel ∧ (s.measRec k).desc.kind = r.kind
    (∀ k, fits k → (∀ l, l < k → ¬ fits l) → s.dispatch r = s.receive k v)
    ∧ ((∀ k, ¬ fits k) →
      (s.line.queueEnable = true ∧ s.line.windowLow ≤ r.address ∧ r.address ≤ s.line.windowHigh →
        s.dispatch r = s.enqueue { r with value := v })
      ∧ (¬ (s.line.queueEnable = true ∧ s.line.windowLow ≤ r.address ∧ r.address ≤ s.line.windowHigh) → s.dispatch r = s)))
  ∧ (∀ (s : State) (r : Reading),
      let put : State := { s with queue := s.queue.push { reading := r, arrival := s.line.periodCount } }
      (s.queue.fill = 0 →
        s.enqueue r = put.postPanels { kind := .queue, subject := 124, value := r.address * 256 + r.channel })
      ∧ (0 < s.queue.fill → s.enqueue r = put))

/-- R16, R17, R19, R28, R60, R63, R64, R70, R107, R112, R129, R175: a record that receives a reading is updated whole, and no other record is changed; a taken commit of a descriptor resets the status of
a record that it rebinds and keeps that of any other, and the configuration flags follow it; a commit of a descriptor is NOT_PERMITTED from any role but PANEL, WRONG_MODE outside
SETUP, BAD_FIELD where a field is out of range, and ACCEPTED with its fields otherwise. An arrival informs the consumers of its record: the
motion controller of the WIND record, then the scheduler, which judges the calling of entry 0 at the tank record and of the clients at the cabin
record, then the frost controller at the tank, outside or fresh level record, which makes one judgement, then the allocator, which makes one
re-evaluation, at a HEADROOM record with the budget recomputed first; and a record that has none of these consumers changes nothing but itself. An arrival at
the fresh or grey level record so blocks and unblocks the winner of the pump channel. That a judgement which changes no state is followed by a
re-evaluation too (log entry 7), the level 0 of a level record that is not designated, of another kind or never read (log entry 17), and the
order of the consumers (log entry 24) are the model's readings. -/
def Obligations.ReceivingRecordIsUpdated : Prop :=
  (∀ (s : State) (k : Fin 24) (v : Int),
    let m := s.measRec k
    let n := v.toNat
    let acc := m.accumulator - m.accumulator / 8 + n
    (s.receive k v).measRec k =
        { m with
          value := v, age := 0, freshness := .fresh
          updates := if m.updates ≥ 255 then 0 else m.updates + 1
          unread := { cp0 := true, cp1 := true, cp2 := true }
          lost :=
            { cp0 := m.lost.cp0 || m.unread.cp0, cp1 := m.lost.cp1 || m.unread.cp1, cp2 := m.lost.cp2 || m.unread.cp2 }
          filtered :=
            if m.desc.kind ≠ .level then m.filtered
            else if s.mode ≠ .travel then n
            else if m.freshness = .never then n
            else (acc + 4) / 8
          accumulator :=
            if m.desc.kind ≠ .level ∨ s.mode ≠ .travel then m.accumulator
            else if m.freshness = .never then 8 * n
            else acc }
    ∧ ∀ l, l ≠ k → (s.receive k v).measRec l = s.measRec l)
  ∧ (∀ (s : State) (p : PortId) (k : Fin 24) (d : MeasDescriptor),
      let m := s.measRec k
      let t := s.obey p (.meas k d)
      let bound (r : Option (Fin 24)) : Prop := ∃ l, r = some l ∧ (t.measRec l).desc.address ≠ 0
      let q := s.battery
      (d.address ≠ m.desc.address ∨ d.channel ≠ m.desc.channel ∨ d.kind ≠ m.desc.kind →
        t.measRec k =
          { desc := d, value := 0, filtered := 0, accumulator := 0, freshness := .never, age := 0
            unread := { cp0 := false, cp1 := false, cp2 := false }, lost := { cp0 := false, cp1 := false, cp2 := false }
            updates := 0 })
      ∧ (d.address = m.desc.address ∧ d.channel = m.desc.channel ∧ d.kind = m.desc.kind → t.measRec k = { m with desc := d })
      ∧ (∀ l, l ≠ k → t.measRec l = s.measRec l)
      ∧ (t.modeCtl.shuntBound = true ↔
          s.modeCtl.batteryCommitted = true ∧ bound q.current ∧ bound q.voltage ∧ bound q.temperature ∧ bound q.interval)
      ∧ t.modeCtl =
          { s.modeCtl with
            shuntBound := t.modeCtl.shuntBound, configured := s.modeCtl.batteryCommitted && t.modeCtl.shuntBound }
      ∧ sameElsewhere s t ∧ sameClients s t ∧ t.sched = s.sched ∧ t.switches = s.switches)
  ∧ (∀ (s : State) (p : PortId) (k : Fin 24) (img : Vector Byte 32),
      let b (k : Nat) : Nat := imageByte img k
      judgedInOrder s p (64 + k.1) img ((s.port p).role ≠ .panel) (s.mode ≠ .setup)
        (b 0 = 255 ∨ 7 < b 1 ∨ 6 < b 2 ∨ b 3 = 0 ∨ 240 < b 3)
        (∃ kind, [MeasKind.temperature, .level, .current, .voltage, .interval, .headroom, .wind][b 2]? = some kind
          ∧ s.judge p (64 + k.1) img
            = .taken .accepted (.meas k { address := b 0, channel := b 1, kind := kind, staleLimit := b 3 })))
  ∧ (∀ (s : State) (k : Fin 24) (v : Int),
      let t := s.receive k v
      let kind := (s.measRec k).desc.kind
      let q := s.frostParams
      let put : State := s.setMeas k (t.measRec k)
      let arrived : State :=
        if s.motionParams.wind = some k ∧ kind = .wind then motionEvent (fun _ => put.windReading v) s else put
      let reads (i : Fin 48) : Bool :=
        ((i = 0 && q.tank = some k) || (4 ≤ i.1 && s.sched.cabin = some k)) && (arrived.entry i).state ≠ .free
          && (s.descOf i).kind = .heavy
      let called : State :=
        { arrived with
          entries := Vector.ofFn fun i =>
            let e := arrived.entry i
            match e.fields.demand with
            | .setpoint n =>
              if reads i then
                { e with
                  calling :=
                    if kind ≠ .temperature then false
                    else if v < n - 5 then true else if n + 5 ≤ v then false else e.calling }
              else e
            | .none | .level _ | .motion _ => e }
      let frost : Prop := q.tank = some k ∨ q.outside = some k ∨ q.fresh = some k
      firstRow (t = called)
        [ (kind = .headroom ∧ frost, t = called.frostJudgement.recomputeBudget.reevaluate)
        , (kind = .headroom, t = called.recomputeBudget.reevaluate)
        , (frost, t = called.frostJudgement.reevaluate)
        , (q.grey = some k, t = called.reevaluate) ]
      ∧ (let headroom : Fin 24 → Bool := fun k => (t.measRec k).desc.kind = .headroom ∧ (t.measRec k).freshness = .fresh
        kind = .headroom →
          t.budget.sourceSum = (((List.finRange 24).filter headroom).map fun k => (t.measRec k).value.toNat).sum
          ∧ t.budget.budget = min s.battery.busLimit (t.budget.sourceSum + t.budget.allowance))
      ∧ (q.fresh = some k ∨ q.grey = some k → t.owed = false → ∀ (c : Fin 16) (i : Fin 48), q.pump = some c →
        (t.channel c).desc.kind = .switch ∨ (t.channel c).desc.kind = .dimmer ∨ (t.channel c).desc.kind = .valve →
        4 ≤ i.1 → t.wins i = true → (t.entry i).fields.channel = c → (∃ l, (t.entry i).fields.demand = .level l) →
        (pumpBarred t → (t.entry i).state = .blocked)
        ∧ (¬ pumpBarred t → t.mode ≠ .storage → q.valve ≠ some c →
          (∃ l, q.fresh = some l ∧ (t.measRec l).desc.kind = .level ∧ (t.measRec l).freshness = .fresh) →
          (t.entry i).state ≠ .blocked)))

/-- R72, R73: the reading queue is first in, first out, and a reading put into a full queue takes the place of the oldest. -/
def Obligations.ReadingQueueIsFirstInFirstOut : Prop :=
  ∀ (q : ReadingQueue) (r : QueuedReading), q.fill ≤ 16 → q.put.1 = (q.get.1 + q.fill) % 16 →
    let contents (q : ReadingQueue) : List QueuedReading :=
      (List.range q.fill).map fun i => vget q.places ⟨(q.get.1 + i) % 16, Nat.mod_lt _ (by decide)⟩
    (q.fill < 16 → contents (q.push r) = contents q ++ [r] ∧ (q.push r).overrun = q.overrun)
    ∧ (q.fill = 16 → contents (q.push r) = (contents q).tail ++ [r] ∧ (q.push r).overrun = true)
    ∧ (0 < q.fill → contents q.pop = (contents q).tail ∧ (contents q).head? = some (vget q.places q.get)
        ∧ q.pop.overrun = false)
    ∧ (q.fill = 0 → q.pop = q)

/-! ### Chapter 5 -/

/-- R79 to R84, R88, R91, R93, R175: the charge product, with the efficiency applied while charging; its addition to the charge held, and the division of the total into a new
content and residue; and what a shunt report leaves of the charge, the tail accumulator, the low-voltage count and the flags, with hold cleared
and gap set in its place; the ACCOUNT notices that it posts, RESUME, EMPTY and SYNC in that order, and then the TIER notice; and the rest that it
does: nothing where neither tier nor hold changes, one re-evaluation with the budget recomputed where either does, and then the frost
judgement where the tier does, with a re-evaluation of its own whether or not it changes the frost state (the model's reading, log
entry 7). -/
def Obligations.ChargeProductAndDivision : Prop :=
  (∀ (p : BatteryParams) (current : Int) (dt : Nat),
      (current ≤ 0 → p.product current dt = current * dt)
      ∧ (0 < current → p.product current dt * 256 ≤ current * dt * p.efficiency
          ∧ current * dt * p.efficiency < (p.product current dt + 1) * 256)
      ∧ (-32768 ≤ current → current ≤ 32767 → dt ≤ 4000 → p.efficiency ≤ 256 →
          -131072000 ≤ p.product current dt ∧ p.product current dt ≤ 131068000))
  ∧ (∀ (a : Account) (product : Int),
      let content := (a.add product).1
      let residue := (a.add product).2
      content * 10000 + residue = (a.charge : Int) * 10000 + a.residue + product
      ∧ residue ≤ 9999
      ∧ (a.residue ≤ 9999 → product ≤ 0 → -product ≤ a.residue → content = a.charge ∧ (residue : Int) = a.residue + product)
      ∧ (a.residue < -product → content < a.charge))
  ∧ (∀ (s : State) (r : ShuntReport),
      let a := s.account
      let p := s.battery
      let t := s.shuntReport r
      let dt := min r.interval.toNat p.maxInterval
      let full := p.capacityAh * 36000
      let sum := a.add (p.product r.current dt)
      let tail :=
        if (p.fullVoltage : Int) ≤ r.voltage ∧ 0 ≤ r.current ∧ r.current ≤ p.tailCurrent then
          min (a.tail + dt) (p.tailTime * 1000)
        else 0
      let gap := a.gap || a.hold || decide (p.maxInterval < r.interval.toNat)
      t.account.hold = false ∧ t.account.tail = tail ∧ t.account.seed = a.seed ∧ t.account.lastSeed = a.lastSeed
      ∧ t.account.lowVoltage = (if r.voltage < (p.protectVoltage : Int) then min 255 (a.lowVoltage + 1) else 0)
      ∧ t.account.reports = (if a.reports ≥ 65535 then 0 else a.reports + 1)
      ∧ (tail = p.tailTime * 1000 →
        t.account.charge = full ∧ t.account.residue = 0 ∧ t.account.synced = true ∧ t.account.gap = false)
      ∧ (tail ≠ p.tailTime * 1000 →
        t.account.synced = a.synced ∧ t.account.gap = gap
        ∧ (sum.1 < 0 → t.account.charge = 0 ∧ t.account.residue = 0)
        ∧ (0 ≤ sum.1 → (full : Int) ≤ sum.1 → t.account.charge = full ∧ t.account.residue = 0)
        ∧ (0 ≤ sum.1 → sum.1 < (full : Int) → (t.account.charge : Int) = sum.1 ∧ t.account.residue = sum.2))
      ∧ (let say (u : State) (event : Nat) : State := u.postAll { kind := .account, subject := 112, value := event }
        let u := s.setAccount t.account
        let u := if a.hold then say u 4 else u
        let u := if sum.1 < 0 ∧ 0 < a.charge then say u 1 else u
        let u := if tail = p.tailTime * 1000 ∧ (a.synced = false ∨ gap = true) then say u 2 else u
        let moved : State :=
          u.postAll { kind := .tier, subject := 112, value := a.tier.code * 256 + t.account.tier.code }
        (a.hold = false → t.account.tier = a.tier → t = u)
        ∧ (a.hold = true → t.account.tier = a.tier → t = u.recomputeBudget.reevaluate)
        ∧ (t.account.tier ≠ a.tier → t = moved.recomputeBudget.reevaluate.frostJudgement.reevaluate)))

/-- R16, R17, R19, R77, R78, R85 to R87, R91, R94, R175: the capacity factor, the effective capacity and the state of charge; the account temperature of a report; and what a taken seed and a
taken commit of the battery parameters leave of the account, by these and by the selection of the tier, with the configuration flags after
the second; the SEEDED notice of a seed, the TIER notice of either where the tier changes, and the re-evaluation and the frost judgement that
follow, the judgement with a re-evaluation of its own whether or not it changes the frost state (the model's reading, log entry 7). A commit of
either record is NOT_PERMITTED from any role but PANEL, WRONG_MODE outside its modes, BAD_FIELD where a field is out of range, and ACCEPTED with
its fields otherwise. -/
def Obligations.CapacityFactorAndStateOfCharge : Prop :=
  (∀ (a : Account) (p : BatteryParams) (temperature : Int),
    let b := a.appraise p temperature
    let n := p.capacityAh * 36000
    b.temperature = temperature
    ∧ (25 ≤ temperature → b.factor = 1024)
    ∧ (temperature ≤ 25 → (512 : Int) ≤ 1024 - p.derating * (25 - temperature) →
        (b.factor : Int) = 1024 - p.derating * (25 - temperature))
    ∧ (temperature ≤ 25 → 1024 - p.derating * (25 - temperature) < (512 : Int) → b.factor = 512)
    ∧ b.effective = n * b.factor / 1024
    ∧ (360000 ≤ n → 180000 ≤ b.effective)
    ∧ b.soc = min 1000 (1000 * a.charge / b.effective)
    ∧ b.charge = a.charge ∧ b.residue = a.residue ∧ b.tier = a.tier)
  ∧ (∀ (s : State) (r : ShuntReport),
      let b := (s.shuntReport r).account
      let c := b.appraise s.battery (r.temperature / 10)
      b.temperature = c.temperature ∧ b.factor = c.factor ∧ b.effective = c.effective ∧ b.soc = c.soc)
  ∧ (∀ (s : State) (p : PortId) (v : Nat),
      let a := s.account
      let q := s.battery
      let t := s.obey p (.seed v)
      let seeded : Account :=
        { a with
          seed := v, lastSeed := some v, charge := q.capacityAh * 36000 * v / 1000, residue := 0, synced := false, gap := true
          tail := 0 }
      let u := (s.setAccount t.account).postAll { kind := .account, subject := 112, value := 5 }
      let moved : State := u.postAll { kind := .tier, subject := 112, value := a.tier.code * 256 + t.account.tier.code }
      t.account = (seeded.appraise q s.recordTemperature).retier q
      ∧ (t.account.tier = a.tier → t = u)
      ∧ (t.account.tier ≠ a.tier → t = moved.recomputeBudget.reevaluate.frostJudgement.reevaluate)
      ∧ t.battery = q ∧ t.engine = s.engine ∧ t.line = s.line ∧ t.polls = s.polls ∧ t.queue = s.queue ∧ t.meas = s.meas
      ∧ t.modeCtl = s.modeCtl ∧ t.sched = s.sched ∧ sameClients s t)
  ∧ (∀ (s : State) (p : PortId) (q : BatteryParams),
      let a := s.account
      let full := q.capacityAh * 36000
      let t := s.obey p (.battery q)
      let kept : Account :=
        { a with
          synced := a.synced && (q.capacityAh == s.battery.capacityAh)
          gap := a.gap || (q.capacityAh != s.battery.capacityAh)
          charge := min full a.charge
          residue := if full < a.charge then 0 else a.residue
          tail := 0 }
      let bound (r : Option (Fin 24)) : Prop := ∃ l, r = some l ∧ (s.measRec l).desc.address ≠ 0
      let u := ({ s with battery := q, modeCtl := t.modeCtl } : State).setAccount t.account
      let moved : State := u.postAll { kind := .tier, subject := 112, value := a.tier.code * 256 + t.account.tier.code }
      (t.account.tier = a.tier → t = u.recomputeBudget.reevaluate)
      ∧ (t.account.tier ≠ a.tier → t = moved.recomputeBudget.reevaluate.frostJudgement.reevaluate)
      ∧ t.battery = q
      ∧ t.account = (kept.appraise q ({ s with battery := q } : State).recordTemperature).retier q
      ∧ t.modeCtl.batteryCommitted = true ∧ t.modeCtl.configured = t.modeCtl.shuntBound
      ∧ (t.modeCtl.shuntBound = true ↔ bound q.current ∧ bound q.voltage ∧ bound q.temperature ∧ bound q.interval)
      ∧ t.engine = s.engine ∧ t.line = s.line ∧ t.polls = s.polls ∧ t.queue = s.queue ∧ t.meas = s.meas ∧ t.mode = s.mode
      ∧ t.sched = s.sched ∧ sameClients s t)
  ∧ (∀ (s : State) (k : Fin 24), s.battery.temperature = some k →
      let m := s.measRec k
      (m.desc.kind = .temperature → m.freshness ≠ .never → s.recordTemperature = m.value / 10)
      ∧ (m.desc.kind ≠ .temperature ∨ m.freshness = .never → s.recordTemperature = 25))
  ∧ (∀ s : State, s.battery.temperature = none → s.recordTemperature = 25)
  ∧ (∀ (s : State) (p : PortId) (img : Vector Byte 32),
      let v := imageByte img 0 * 256 + imageByte img 1
      judgedInOrder s p 112 img ((s.port p).role ≠ .panel) (s.mode ≠ .setup ∧ s.mode ≠ .parked) (1000 < v)
        (s.judge p 112 img = .taken .accepted (.seed v)))
  ∧ (∀ (s : State) (p : PortId) (img : Vector Byte 32),
      let b (k : Nat) : Nat := imageByte img k
      let w (k : Nat) : Nat := b k * 256 + b (k + 1)
      let thresholds := w 13 * 65536 + w 15
      let t1 := thresholds / 2 ^ 22
      let t2 := thresholds / 2 ^ 12 % 1024
      let t3 := thresholds / 2 ^ 2 % 1024
      let allowances := (w 18 * 65536 + w 20) * 65536 + w 22
      let allow (low : Nat) : Nat := allowances / 2 ^ low % 2048
      let bad : Prop :=
        w 0 < 10 ∨ 2000 < w 0 ∨ (b 2 ≠ 0 ∧ b 2 < 200) ∨ 15 < b 3 ∨ w 4 = 0 ∨ 32767 < w 6 ∨ w 8 < 10 ∨ 600 < w 8
          ∨ b 12 = 0 ∨ 40 < b 12 ∨ 1000 < t1 ∨ t1 ≤ t2 ∨ t2 ≤ t3 ∨ 100 < b 17
          ∨ 2000 < allow 37 ∨ 2000 < allow 26 ∨ 2000 < allow 15 ∨ 2000 < allow 4 ∨ 2000 < w 24
          ∨ w 26 < 250 ∨ 4000 < w 26 ∨ (∃ k ∈ [28, 29, 30, 31], b k < 64 ∨ 87 < b k)
          ∨ ∃ k ∈ [28, 29, 30, 31], ∃ l ∈ [28, 29, 30, 31], k ≠ l ∧ b k = b l
      judgedInOrder s p 114 img ((s.port p).role ≠ .panel) (s.mode ≠ .setup) bad
        (∃ current voltage temperature interval : Fin 24,
          b 28 = 64 + current.1 ∧ b 29 = 64 + voltage.1 ∧ b 30 = 64 + temperature.1 ∧ b 31 = 64 + interval.1
          ∧ s.judge p 114 img
            = .taken .accepted
                (.battery
                  { capacityAh := w 0, efficiency := if b 2 = 0 then 256 else b 2, derating := b 3, fullVoltage := w 4
                    tailCurrent := w 6, tailTime := w 8, protectVoltage := w 10, protectCount := b 12, t1 := t1, t2 := t2
                    t3 := t3, hysteresis := b 17, allowNormal := allow 37, allowConserve := allow 26
                    allowEssential := allow 15, allowProtect := allow 4, busLimit := w 24, maxInterval := w 26
                    current := some current, voltage := some voltage, temperature := some temperature
                    interval := some interval })))

/-- R89 to R91: the selected tier, between the present tier and the target, by the thresholds and the hysteresis; the two overrides, with the selection left
out while hold is set; the tier that a shunt report leaves; and the one TIER notice of a shunt report, a seed or a commit of the battery
parameters that changes the tier, and none of any other. -/
def Obligations.TierSelection : Prop :=
  (∀ (p : BatteryParams) (soc : Nat) (present : Tier),
    let target := p.target soc
    let tier := p.select soc present
    (p.t1 ≤ soc → target = .normal)
    ∧ (soc < p.t1 → p.t2 ≤ soc → target = .conserve)
    ∧ (soc < p.t1 → soc < p.t2 → p.t3 ≤ soc → target = .essential)
    ∧ (soc < p.t1 → soc < p.t2 → soc < p.t3 → target = .protect)
    ∧ (present.code ≤ target.code → tier = target)
    ∧ (target.code < present.code →
      target.code ≤ tier.code ∧ tier.code ≤ present.code
      ∧ (∀ u up threshold, tier.code < u.code → u.code ≤ present.code → p.above u = some (up, threshold) →
          threshold + p.hysteresis ≤ soc)
      ∧ (tier ≠ target → ∀ up threshold, p.above tier = some (up, threshold) → soc < threshold + p.hysteresis)))
  ∧ (∀ (a : Account) (p : BatteryParams),
      let selected := if a.hold then a.tier else p.select a.soc a.tier
      a.retier p =
        { a with
          tier :=
            if p.protectCount ≤ a.lowVoltage then .protect
            else if a.synced = false ∧ selected = .normal then .conserve
            else selected })
  ∧ (∀ (s : State) (r : ShuntReport),
      let b := (s.shuntReport r).account
      b.tier = (({ b with tier := s.account.tier } : Account).retier s.battery).tier)
  ∧ (∀ (s t : State),
      (∃ r, t = s.shuntReport r) ∨ (∃ p v, t = s.obey p (.seed v)) ∨ (∃ p q, t = s.obey p (.battery q)) →
      let former := s.account.tier
      let new := t.account.tier
      tells s t .tier (fun _ =>
        if new = former then [] else [{ kind := .tier, subject := 112, value := former.code * 256 + new.code }]))

/-! ### Chapter 6 -/

/-- R106, R108: the three parts of the budget, and the need of an entry, by its channel kind, its kind and its value. -/
def Obligations.BudgetHasThreePartsAndEntriesNeeds : Prop :=
  (∀ s : State,
    let b := s.recomputeBudget.budget
    let allowance :=
      match s.account.tier with
      | .normal => s.battery.allowNormal
      | .conserve => s.battery.allowConserve
      | .essential => s.battery.allowEssential
      | .protect => s.battery.allowProtect
    b.sourceSum =
        ((List.finRange 24).map fun k =>
          if (s.measRec k).desc.kind = .headroom ∧ (s.measRec k).freshness = .fresh then (s.measRec k).value.toNat else 0).sum
    ∧ b.allowance = (if s.account.hold then min allowance s.battery.allowEssential else allowance)
    ∧ b.budget = min s.battery.busLimit (b.sourceSum + b.allowance)
    ∧ s.recomputeBudget = s.setBudget { s.budget with sourceSum := b.sourceSum, allowance := b.allowance, budget := b.budget })
  ∧ (∀ (d : ChannelDescriptor) (l : Nat),
    ((d.kind = .switch ∨ d.kind = .valve) → 1 ≤ l → l ≤ 100 → needAt d (.level l) = d.nominal)
    ∧ ((d.kind = .switch ∨ d.kind = .valve ∨ d.kind = .dimmer) → needAt d (.level 0) = 0)
    ∧ (d.kind = .dimmer → d.nominal * l ≤ 100 * needAt d (.level l) ∧ 100 * needAt d (.level l) < d.nominal * l + 100)
    ∧ (d.kind = .heavy → needAt d (.level l) = d.nominal ∧ ∀ t, needAt d (.setpoint t) = d.nominal)
    ∧ (d.kind = .bridge → needAt d (.motion .extend) = d.nominal ∧ needAt d (.motion .retract) = d.nominal
        ∧ (∀ n, needAt d (.motion (.position n)) = d.nominal) ∧ needAt d (.motion .stop) = 0))

/-- R100, R104, R105, R111: after a re-evaluation no two demand entries are GRANTED for the same channel; it leaves every FREE, HELD and DONE entry as it
stands, and changes no fields, owner, hold timer of a candidate, starvation count, calling or run count of any entry; and it posts one ENTRY
notice of each entry whose state or reason it leaves changed, to its owner, in ascending entry number. -/
def Obligations.ReevaluationSettlesTheEntries : Prop :=
  (∀ (s : State) (i j : Fin 48),
     let t := s.reevaluate
     (t.entry i).state = .granted → (t.entry j).state = .granted →
     (t.entry i).fields.channel = (t.entry j).fields.channel → i = j)
  ∧ (∀ s : State, tells s s.reevaluate .entry (entryNotices s s.reevaluate .none))
  ∧ ∀ (s : State) (i : Fin 48),
    let e := s.entry i
    let f := s.reevaluate.entry i
    (e.state = .free ∨ e.state = .held ∨ e.state = .done → f = e)
    ∧ f.fields = e.fields ∧ f.owner = e.owner ∧ f.starvation = e.starvation ∧ f.calling = e.calling ∧ f.runs = e.runs
    ∧ (f.state ≠ .done → f.holdTimer = e.holdTimer)

/-- R123, R141 to R145, R156, R184: a re-evaluation hands its grants on. A SWITCH or VALVE channel with a granted entry is ON at a level above 0 and OFF at 0, a
DIMMER heads for the granted level, and the bridge's operation is the entry granted with its value, each with the row of record 113; a
steady channel with no grant that is not TRIPPED or LOCKED_OUT is OFF with its levels 0, its row holds no entry and its bridge no operation;
and a TRIPPED or LOCKED_OUT channel stays as it was. The bank's own answer to a grant, with the inrush window of a switch-on. That an inrush time
of 0 opens no window is the model's choice (log entry 19), and the re-evaluations of a cut chain are left out (log entry 5). -/
def Obligations.GrantsReachTheBank : Prop :=
  (∀ s : State, kindsLaw s →
    let t := s.reevaluate
    t.owed = false →
    ∀ c : Fin 16,
      let x := t.channel c
      let kind := x.desc.kind
      let row (i : Option (Fin 48)) (l : Nat) : Prop := t.row c = { s.row c with entry := i, level := l }
      let dark : Prop := x.state = .off ∧ x.target = 0 ∧ x.present = 0 ∧ x.shadow = 0 ∧ x.duty = 0
      let operation (o : Option Operation) : Prop := (c = 14 → t.step.operation = o) ∧ (c = 15 → t.awning.operation = o)
      (∀ i, (t.entry i).state = .granted → (t.entry i).fields.channel = c →
        (kind = .switch ∨ kind = .valve → ∀ l, (t.entry i).fields.demand = .level l →
          x.state = (if 0 < l then .on else .off) ∧ row (some i) (if 0 < l then 100 else 0))
        ∧ (kind = .dimmer → ∀ l, (t.entry i).grantedLevel = some l →
          (0 < l → x.target = l ∧ x.state = (if x.present = l then .lit else .ramping)) ∧ (l = 0 → dark) ∧ row (some i) l)
        ∧ (kind = .bridge →
          row (some i) 0 ∧ ∀ v, (t.entry i).fields.demand = .motion v → operation (some { entry := i, value := v })))
      ∧ ((∀ i, (t.entry i).state = .granted → (t.entry i).fields.channel ≠ c) →
        (kind ≠ .heavy → row none 0)
        ∧ (kind = .switch ∨ kind = .valve ∨ kind = .dimmer → x.state ≠ .tripped → x.state ≠ .lockedOut →
          x.state = .off ∧ (kind = .dimmer → dark))
        ∧ (kind = .bridge → operation none))
      ∧ (c.1 < 14 → (s.channel c).state = .tripped ∨ (s.channel c).state = .lockedOut → x = s.channel c))
  ∧ (∀ (x : Channel) (g : Option Nat),
    let barred : Prop := x.state = .tripped ∨ x.state = .lockedOut
    let granted : Prop := ∃ l, g = some l ∧ 0 < l
    (barred → x.grantSwitch g = x ∧ x.grantDimmer g = x)
    ∧ (¬ barred → granted →
      (x.state = .on → x.grantSwitch g = x)
      ∧ (x.state ≠ .on →
        x.grantSwitch g =
          { x with state := .on, inrush := if x.desc.inrushTime = 0 then none else some x.desc.inrushTime })
      ∧ ∀ l, g = some l → x.grantDimmer g = { x with target := l, state := if x.present = l then .lit else .ramping })
    ∧ (¬ barred → ¬ granted →
      x.grantSwitch g = { x with state := .off }
      ∧ x.grantDimmer g = { x with state := .off, target := 0, present := 0, shadow := 0, duty := 0 }))

/-- R109 to R111, R113 to R122, R168, R169: among the candidates of a steady channel all but the winner become SUPERSEDED; an exempt winner is GRANTED unless its
channel is TRIPPED or LOCKED_OUT; any other winner is BLOCKED with the reason of the condition that holds, SHED for TIER where none holds, it
is not protected and the tier sheds its class, WAITING or SHED for its channel, SHED for NO_BUDGET where E exceeds B, and otherwise GRANTED at
the level that fits beside the running total of the winners before it, or SHED. Record 113 takes E, R, the steady budget, the steady total
and the heavy headroom, and after a whole re-evaluation, from a state whose run is on a HEAVY channel that its entry targets, E and the
steady total are the needs of the entries GRANTED on steady channels. An entry is blocked for MODE in STORAGE, for INTERLOCK by its channel's
kind, the motion verdicts and the conditions of the pump and the dump valve, and for SENSOR on the pump channel, the first of these that holds;
and a re-evaluation blocks the entries on HEAVY channels so, and unblocks them, from a state where the entry of the present run is GRANTED. That a
fresh level record which is not designated, of another kind or never read has the level 0, so that INTERLOCK stands before SENSOR, is the
model's reading (log entry 17). -/
def Obligations.WinnersAreCheckedInOrder : Prop :=
  (∀ (s : State) (i : Fin 48),
    let e := s.entry i
    let f := s.settleSteady.entry i
    let steady := (s.channel e.fields.channel).desc.kind.steady
    (e.state.isCandidate = true → steady = true → s.wins i = false → f.state = .superseded ∧ f.reason = .none)
    ∧ (s.wins i = true → s.exempt i = false → ∀ r, s.blocking i = some r → f.state = .blocked ∧ f.reason = r)
    ∧ (s.wins i = true → s.exempt i = false → s.protectedGrant i = false → s.blocking i = none →
        s.account.tier.sheds e.fields.cls = true → f.state = .shed ∧ f.reason = .tier))
  ∧ (∀ (s : State) (i : Fin 48), s.wins i = true →
    let e := s.entry i
    let x := s.channel e.fields.channel
    let t := s.settleSteady
    let f := t.entry i
    let b := t.budget
    let before (j : Fin 48) : Bool :=
      s.wins j && !s.exempt j && (t.entry j).state = .granted
        && ((s.protectedGrant j && !s.protectedGrant i) || (s.protectedGrant j == s.protectedGrant i && s.precedes j i))
    let running := (((List.finRange 48).filter before).map (grantedNeed t)).sum
    let fits (d : Demand) : Prop := running + needAt x.desc d ≤ b.steadyBudget
    (x.state = .tripped → s.exempt i = true → f.state = .waiting ∧ f.reason = .tripped)
    ∧ (x.state = .lockedOut → s.exempt i = true → f.state = .shed ∧ f.reason = .lockedOut)
    ∧ (x.state ≠ .tripped → x.state ≠ .lockedOut → s.exempt i = true → f.state = .granted ∧ f.reason = .none)
    ∧ (s.exempt i = false → s.blocking i = none →
        s.protectedGrant i = true ∨ s.account.tier.sheds e.fields.cls = false →
      (x.state = .tripped → f.state = .waiting ∧ f.reason = .tripped)
      ∧ (x.state = .lockedOut → f.state = .shed ∧ f.reason = .lockedOut)
      ∧ (x.state ≠ .tripped → x.state ≠ .lockedOut →
        (b.budget < b.exemptSum → f.state = .shed ∧ f.reason = .noBudget)
        ∧ (b.exemptSum ≤ b.budget → ¬ (x.desc.kind = .dimmer ∧ ∃ l, e.fields.demand = .level l) →
          (fits e.fields.demand → f.state = .granted ∧ f.reason = .none ∧ f.grantedLevel = none)
          ∧ (¬ fits e.fields.demand → f.state = .shed ∧ f.reason = .noBudget))
        ∧ (b.exemptSum ≤ b.budget → x.desc.kind = .dimmer → ∀ l, e.fields.demand = .level l →
          let tried := if s.account.tier = .conserve ∧ e.fields.cls = 2 then min l 50 else l
          (fits (.level tried) →
            f.state = .granted ∧ f.reason = (if tried < l then .tier else .none) ∧ f.grantedLevel = some tried)
          ∧ (¬ fits (.level tried) →
            (∀ g k, g + 10 * k = tried → 1 ≤ k → 10 ≤ g → fits (.level g) →
              (∀ h m, h + 10 * m = tried → 1 ≤ m → m < k → ¬ fits (.level h)) →
              f.state = .granted ∧ f.reason = .degraded ∧ f.grantedLevel = some g)
            ∧ ((∀ g k, g + 10 * k = tried → 1 ≤ k → 10 ≤ g → ¬ fits (.level g)) →
              f.state = .shed ∧ f.reason = .noBudget))))))
  ∧ (∀ s : State,
    let t := s.settleSteady
    let b := t.budget
    let sum (p : Fin 48 → Bool) : Nat :=
      (((List.finRange 48).filter fun i => s.wins i && p i && (t.entry i).state = .granted).map (grantedNeed t)).sum
    b.budget = s.budget.budget
    ∧ b.exemptSum = sum (fun i => s.exempt i) ∧ b.steadyTotal = sum (fun i => !s.exempt i)
    ∧ b.reserve =
        (if (s.entry 0).state = .free then 0
        else match s.frostParams.heater with | some c => (s.channel c).desc.nominal | none => 0)
    ∧ b.steadyBudget = b.budget - b.exemptSum - b.reserve
    ∧ b.headroom = (b.budget : Int) - b.exemptSum - b.steadyTotal)
  ∧ (∀ s : State, heavyLaw s →
    let t := s.reevaluate
    t.owed = false → grantedNeeds t = t.budget.exemptSum + t.budget.steadyTotal)
  ∧ (∀ (s : State) (i : Fin 48), kindsLaw s →
    let f := (s.entry i).fields
    let kind := (s.channel f.channel).desc.kind
    let q := s.frostParams
    let outward : Prop := f.demand = .motion .extend ∨ ∃ n, f.demand = .motion (.position n)
    let windUnknown : Prop :=
      ∃ k, s.motionParams.wind = some k ∧ ((s.measRec k).desc.kind = .wind → (s.measRec k).freshness ≠ .fresh)
    let unfit : Prop :=
      ((∃ l, f.demand = .level l) ∧ (kind = .unused ∨ kind = .bridge)) ∨ ((∃ n, f.demand = .setpoint n) ∧ kind ≠ .heavy)
        ∨ ((∃ v, f.demand = .motion v) ∧ f.channel.1 < 14)
    let barred : Prop :=
      (f.channel = 14 ∧ f.demand = .motion .extend ∧ (s.mode = .travel ∨ s.modeCtl.ignition = true))
        ∨ (f.channel = 15 ∧ outward ∧ (s.mode = .travel ∨ s.wind.holdTimer.isSome ∨ windUnknown))
        ∨ (q.pump = some f.channel ∧ pumpBarred s)
        ∨ (i ≠ 1 ∧ q.valve = some f.channel ∧ ¬ valveHeld s ∧ drawsWater f.demand = true)
    let unsure : Prop :=
      q.pump = some f.channel
        ∧ ∀ k, q.fresh = some k → (s.measRec k).desc.kind = .level → (s.measRec k).freshness ≠ .fresh
    firstRow (s.blocking i = none)
      [ (s.mode = .storage ∧ 4 ≤ i.1 ∧ (f.cls = 2 ∨ f.cls = 3), s.blocking i = some .mode)
      , (unfit ∨ barred, s.blocking i = some .interlock)
      , (unsure, s.blocking i = some .sensor) ])
  ∧ (∀ (s : State) (i : Fin 48), kindsLaw s → (s.entry i).state.isCandidate = true → (s.descOf i).kind = .heavy →
    (s.entry i).state ≠ .superseded → (∀ r, s.budget.run = some r → (s.entry r.entry).state = .granted) →
    let f := s.reevaluate.entry i
    (∀ r, s.blocking i = some r → f.state = .blocked ∧ f.reason = r)
    ∧ (s.blocking i = none → (s.entry i).state = .blocked → f.state = .waiting ∧ f.reason = .none))

/-- R102, R136: at the expiry of its hold timer an entry becomes DONE with reason EXPIRED and loses a run that it holds; entry by entry,
fields and owner stay. -/
def Obligations.HoldTimerExpiryEndsTheEntry : Prop :=
  ∀ (s : State) (i : Fin 48), (s.entry i).holdTimer.isSome →
    ∃ t, exec (.holdTimerExpiry i) s = .next t
      ∧ t.entry i = { s.entry i with state := .done, reason := .expired, grantedLevel := none, holdTimer := none }
      ∧ t.holdsRun i = false
      ∧ (∀ j, (t.entry j).fields = (s.entry j).fields ∧ (t.entry j).owner = (s.entry j).owner)
      ∧ sameElsewhere s t ∧ t.meas = s.meas ∧ t.sched = s.sched ∧ t.frost = s.frost ∧ t.modeCtl = s.modeCtl ∧ t.wind = s.wind
      ∧ t.switches = s.switches

/-! ### Chapter 7 -/

/-- R16, R17, R19, R124, R125, R130: a slot boundary advances the counters, loads the slot timer, carries the decision for the slot just begun out and then decides the slot
that follows, by the entries as they then stand; it leaves the records, the modes, the switches and the clients' fields as they are. A
taken commit of the slot parameters writes its two fields, and judges the calling of the client SETPOINT entries on HEAVY channels afresh
where the cabin designation changes; a commit of them is NOT_PERMITTED from any role but PANEL, WRONG_MODE outside SETUP, BAD_FIELD at another slot
length or a designation that names no record, and ACCEPTED with its fields otherwise. -/
def Obligations.SlotBoundaryAdvances : Prop :=
  (∀ s : State, ∃ t, exec .slotBoundary s = .next t
    ∧ (let slot := if s.sched.slot ≥ 15 then 0 else s.sched.slot + 1
      let cycle := if s.sched.slot ≥ 15 then (if s.sched.cycle ≥ 63 then 0 else s.sched.cycle + 1) else s.sched.cycle
      let timer := s.sched.slotLength * 1000
      let begun : State :=
        State.settleRun (s.setSched { s.sched with slot := slot, cycle := cycle, slotTimer := timer }) slot
      let carried : State := match s.sched.decision with | some d => begun.carryOut d | none => begun
      let next :=
        if slot ≥ 15 then carried.decideSlot 0 (if cycle ≥ 63 then 0 else cycle + 1) else carried.decideSlot (slot + 1) cycle
      t.sched = { s.sched with slot := slot, cycle := cycle, slotTimer := timer, decision := some next })
    ∧ sameElsewhere s t ∧ sameClients s t ∧ t.meas = s.meas ∧ t.modeCtl = s.modeCtl ∧ t.wind = s.wind ∧ t.switches = s.switches)
  ∧ (∀ (s : State) (p : PortId) (length : Nat) (cabin : Option (Fin 24)),
    let u := s.setSched { s.sched with slotLength := length, cabin := cabin }
    let t := s.obey p (.slots length cabin)
    (cabin = s.sched.cabin → t = u)
    ∧ (cabin ≠ s.sched.cabin →
      t = { u with entries := t.entries }
      ∧ ∀ i : Fin 48,
        let judged : Prop :=
          4 ≤ i.1 ∧ (s.entry i).state ≠ .free ∧ (∃ v, (s.entry i).fields.demand = .setpoint v) ∧ (s.descOf i).kind = .heavy
        (judged → t.entry i = (u.judgeCalling i (s.entry i).calling).entry i) ∧ (¬ judged → t.entry i = s.entry i)))
  ∧ (∀ (s : State) (p : PortId) (img : Vector Byte 32),
    let b (k : Nat) : Nat := imageByte img k
    judgedInOrder s p 121 img ((s.port p).role ≠ .panel) (s.mode ≠ .setup)
      ((b 0 ≠ 1 ∧ b 0 ≠ 2 ∧ b 0 ≠ 4 ∧ b 0 ≠ 8) ∨ namesNoRecord (b 1))
      (∃ cabin, namesRecord cabin (b 1) ∧ s.judge p 121 img = .taken .accepted (.slots (b 0) cabin)))

/-- R126, R127, R133: the owner of a slot is the lowest-numbered entry that matches it, and the verdict on an owner is that of the first case that holds; it is
set aside exactly for an owner that is HELD or BLOCKED; a slot is decided by its owner, and one without an owner is IDLE with no owner. -/
def Obligations.SlotOwnerAndVerdict : Prop :=
  (∀ (s : State) (slot cycle : Nat),
      let fits (i : Fin 48) : Prop :=
        let f := (s.entry i).fields
        (s.channel f.channel).desc.kind = .heavy ∧ (s.entry i).state ≠ .free ∧ (s.entry i).state ≠ .done
        ∧ f.slotFirst ≤ slot ∧ slot ≤ f.slotFirst + f.slotSpan - 1 ∧ 0 < f.slotSpan ∧ cycle % f.repetition = f.base
      (∀ i, s.slotOwner slot cycle = some i ↔ fits i ∧ ∀ j, j < i → ¬ fits j)
      ∧ (s.slotOwner slot cycle = none ↔ ∀ i, ¬ fits i))
  ∧ (∀ (s : State) (i : Fin 48),
      let e := s.entry i
      let d := s.ownerDecision i
      let c := (s.channel e.fields.channel).state
      d.owner = some i ∧ d.channel = e.fields.channel
      ∧ (d.aside = true ↔ e.state = .held ∨ e.state = .blocked)
      ∧ (e.state = .held → d.verdict = .idle ∧ d.reason = .none)
      ∧ (e.state = .blocked → d.verdict = .idle ∧ d.reason = e.reason)
      ∧ (e.state ≠ .held → e.state ≠ .blocked →
        ((∃ t, e.fields.demand = .setpoint t) ∧ e.calling = false → d.verdict = .idle ∧ d.reason = .notCalling)
        ∧ (e.fields.demand = .level 0 → d.verdict = .idle ∧ d.reason = .none)
        ∧ ((∃ t, e.fields.demand = .setpoint t) ∧ e.calling = true ∨ (∃ l, e.fields.demand = .level l ∧ 0 < l) →
          (s.account.tier.sheds e.fields.cls = true → d.verdict = .idle ∧ d.reason = .tier)
          ∧ (s.account.tier.sheds e.fields.cls = false →
            (c = .tripped → d.verdict = .idle ∧ d.reason = .tripped)
            ∧ (c = .lockedOut → d.verdict = .idle ∧ d.reason = .lockedOut)
            ∧ (c ≠ .tripped → c ≠ .lockedOut → d.verdict = .run ∧ d.reason = .none)))))
  ∧ (∀ (s : State) (slot cycle : Nat),
      (∀ i, s.slotOwner slot cycle = some i → s.decideSlot slot cycle = s.ownerDecision i)
      ∧ (s.slotOwner slot cycle = none →
        s.decideSlot slot cycle = { owner := none, channel := 0, verdict := .idle, reason := .none, aside := false }))

/-- R105, R130 to R134, R175: a RUN verdict that stands starts a run where the heavy headroom holds the nominal current, with the starvation count at 0, and is
dropped for NO_HEADROOM or the state of its channel otherwise, with starvation counted, and a withdrawn one writes nothing; an IDLE
verdict is written into an owner in WAITING, GRANTED or SHED, and counted where it starves. A run that owns slot 1 to 15 with RUN goes on; one
that owns its slot with IDLE for TIER is interrupted and not counted; any other ends and is counted, a ONCE entry DONE and a STANDING one
WAITING, which at slot 0 may start anew. All this by the work of the boundary, steps 1 to 5; the boundary posts the ENTRY notices of it,
and then the frost controller judges where the starvation count of entry 0 has changed, and the allocator re-evaluates where an entry became
DONE; where neither is so it does nothing else. That a verdict on a dump valve channel that is not held
closed is withdrawn (log entry 41), that an IDLE verdict is written into an owner that has moved to another channel too (log entry 44), and that a
run which owns slot 0 with IDLE for TIER is interrupted and not counted (log entry 47), are
the model's choices; that the judgement comes before the re-evaluation and has one of its own (log entries 7 and 22) is its reading. -/
def Obligations.RunsStartAndEndAtBoundaries : Prop :=
  (∀ (s : State) (i : Fin 48) (d : SlotDecision),
      i ≠ 0 → s.budget.run = none → s.sched.decision = some d → d.owner = some i → d.verdict = .run →
      (s.entry i).state = .waiting ∨ (s.entry i).state = .shed → (s.entry i).fields.channel = d.channel →
      (s.channel d.channel).desc.kind = .heavy → (s.channel d.channel).state = .off →
      (s.frostParams.valve = some d.channel → valveHeld s) →
      let c := d.channel
      let nominal := (s.channel c).desc.nominal
      ((nominal : Int) ≤ s.budget.headroom →
        ∃ t, exec .slotBoundary s = .next t
          ∧ t.budget.run = some { entry := i, channel := c, need := nominal }
          ∧ t.entry i = { s.entry i with state := .granted, reason := .none, grantedLevel := none, starvation := 0 }
          ∧ t.channels = vset s.channels c ({ s.channel c with state := .on }.openInrush)
          ∧ t.row c = { s.row c with entry := some i, level := 100 }
          ∧ ∀ j, j ≠ i → t.entry j = s.entry j)
      ∧ (s.budget.headroom < (nominal : Int) →
        ∃ t, exec .slotBoundary s = .next t
          ∧ t.budget = s.budget ∧ t.channels = s.channels
          ∧ t.entry i =
              { s.entry i with
                state := .waiting, reason := .noHeadroom, grantedLevel := none
                starvation := min 255 ((s.entry i).starvation + 1) }
          ∧ ∀ j, j ≠ i → t.entry j = s.entry j))
  ∧ (∀ (s : State) (r : Run), s.budget.run = some r → 4 ≤ r.entry.1 → 15 ≤ s.sched.slot →
      (∀ d, s.sched.decision = some d → ¬ (d.owner = some r.entry ∧ d.verdict = .idle ∧ d.reason = .tier)) →
      ∃ t, exec .slotBoundary s = .next t
        ∧ (t.entry r.entry).runs = (if (s.entry r.entry).runs ≥ 65535 then 0 else (s.entry r.entry).runs + 1)
        ∧ ((s.entry r.entry).state = .granted → (s.entry r.entry).fields.persistence = .once →
            (t.entry r.entry).state = .done ∧ (t.entry r.entry).reason = .complete))
  ∧ (∀ s : State,
      let w := s.boundaryWork
      let starved : Prop := (w.entry 0).starvation ≠ (s.entry 0).starvation
      let done : Prop := ∃ i, (w.entry i).state = .done ∧ (s.entry i).state ≠ .done
      ∃ t, t = { w with ports := t.ports } ∧ tells s t .entry (entryNotices s t .none)
        ∧ (¬ starved → ¬ done → exec .slotBoundary s = .next t)
        ∧ (¬ starved → done → exec .slotBoundary s = .next t.reevaluate)
        ∧ (starved → ¬ done → exec .slotBoundary s = .next t.frostJudgement.reevaluate)
        ∧ (starved → done → exec .slotBoundary s = .next t.frostJudgement.reevaluate.reevaluate))
  ∧ (∀ s : State,
      let w := s.boundaryWork
      let same : Prop := w = { s with sched := w.sched }
      (s.budget.run = none →
        ((∀ d, s.sched.decision = some d → d.owner = none ∨ d.verdict = .none) → same)
        ∧ ∀ d i, s.sched.decision = some d → d.owner = some i →
          let e := s.entry i
          let x := s.channel d.channel
          let writes (f : Entry) : Prop := w = { s.setEntry i f with sched := w.sched }
          let starved : Nat := min 255 (e.starvation + 1)
          (d.verdict = .idle →
            (d.aside = true ∨ (e.state ≠ .waiting ∧ e.state ≠ .granted ∧ e.state ≠ .shed) → same)
            ∧ (d.aside = false → e.state = .waiting ∨ e.state = .granted ∨ e.state = .shed →
              (d.reason = .tier ∨ d.reason = .lockedOut →
                writes { e with state := .shed, reason := d.reason, grantedLevel := none, starvation := starved })
              ∧ (d.reason = .tripped →
                writes { e with state := .waiting, reason := d.reason, grantedLevel := none, starvation := starved })
              ∧ (d.reason = .none ∨ d.reason = .notCalling →
                writes { e with state := .waiting, reason := d.reason, grantedLevel := none })))
          ∧ (d.verdict = .run →
            let withdrawn : Prop :=
              e.state = .free ∨ e.state = .held ∨ e.state = .done ∨ e.state = .blocked ∨ e.fields.channel ≠ d.channel
                ∨ (s.frostParams.valve = some d.channel ∧ ¬ valveHeld s)
            (withdrawn → same)
            ∧ (¬ withdrawn → x.desc.kind = .heavy →
              (x.state = .tripped →
                writes { e with state := .waiting, reason := .tripped, grantedLevel := none, starvation := starved })
              ∧ (x.state = .lockedOut →
                writes { e with state := .shed, reason := .lockedOut, grantedLevel := none, starvation := starved })
              ∧ (x.state = .off →
                (s.budget.headroom < (x.desc.nominal : Int) →
                  writes { e with state := .waiting, reason := .noHeadroom, grantedLevel := none, starvation := starved })
                ∧ ((x.desc.nominal : Int) ≤ s.budget.headroom →
                  w.entry i = { e with state := .granted, reason := .none, grantedLevel := none, starvation := 0 }
                  ∧ (w.channel d.channel).state = .on ∧ w.row d.channel = { s.row d.channel with entry := some i, level := 100 }
                  ∧ w.budget.run = some { entry := i, channel := d.channel, need := x.desc.nominal }
                  ∧ ∀ j, j ≠ i → w.entry j = s.entry j)))))
      ∧ (∀ r, s.budget.run = some r → (s.entry r.entry).state = .granted → (s.entry r.entry).fields.channel = r.channel →
        (s.channel r.channel).state = .on →
        let i := r.entry
        let e := s.entry i
        let owns (v : SlotVerdict) : Prop := ∃ d, s.sched.decision = some d ∧ d.owner = some i ∧ d.verdict = v
        let tier : Prop := ∃ d, s.sched.decision = some d ∧ d.owner = some i ∧ d.verdict = .idle ∧ d.reason = .tier
        let begins0 : Prop := 15 ≤ s.sched.slot
        let counted : Nat := if e.runs ≥ 65535 then 0 else e.runs + 1
        let off : Prop := w.budget.run = none ∧ (w.channel r.channel).state = .off
          ∧ w.row r.channel = { s.row r.channel with entry := none, level := 0 }
        (owns .run → ¬ begins0 → same)
        ∧ (tier → (∀ d, s.sched.decision = some d → d.aside = false) →
          off ∧ w.entry i =
            { e with state := .shed, reason := .tier, grantedLevel := none, starvation := min 255 (e.starvation + 1) })
        ∧ ((∀ d, s.sched.decision = some d → d.owner ≠ some i) →
          (e.fields.persistence = .once →
            w.entry i = { e with state := .done, reason := .complete, grantedLevel := none, holdTimer := none, runs := counted })
          ∧ (e.fields.persistence = .standing →
            w.entry i = { e with state := .waiting, reason := .none, grantedLevel := none, runs := counted })
          ∧ ((∀ d, s.sched.decision = some d → d.verdict ≠ .run) → off))
        ∧ (∀ d, s.sched.decision = some d → d.owner = some i → d.verdict = .idle → d.aside = false →
          d.reason = .none ∨ d.reason = .notCalling →
          off
          ∧ (e.fields.persistence = .once →
            w.entry i = { e with state := .done, reason := .complete, grantedLevel := none, holdTimer := none, runs := counted })
          ∧ (e.fields.persistence = .standing →
            w.entry i = { e with state := .waiting, reason := d.reason, grantedLevel := none, runs := counted }))
        ∧ (owns .run → begins0 → e.fields.persistence = .once →
          off ∧ w.entry i = { e with state := .done, reason := .complete, grantedLevel := none, holdTimer := none, runs := counted })
        ∧ (owns .run → begins0 → e.fields.persistence = .standing → (∀ d, s.sched.decision = some d → d.channel = r.channel) →
          (s.channel r.channel).desc.kind = .heavy → (s.frostParams.valve = some r.channel → valveHeld s) →
          let nominal := (s.channel r.channel).desc.nominal
          ((nominal : Int) ≤ s.budget.headroom →
            w.budget.run = some { entry := i, channel := r.channel, need := nominal } ∧ (w.channel r.channel).state = .on
            ∧ w.entry i = { e with reason := .none, grantedLevel := none, runs := counted, starvation := 0 })
          ∧ (s.budget.headroom < (nominal : Int) →
            off ∧ w.entry i =
              { e with
                state := .waiting, reason := .noHeadroom, grantedLevel := none, runs := counted
                starvation := min 255 (e.starvation + 1) }))))

/-- R128: calling, by the designated record and the setpoint; and judging it changes nothing else. -/
def Obligations.CallingFollowsTheThermostat : Prop :=
  ∀ (s : State) (i : Fin 48) (setpoint : Int) (previous : Bool),
    (s.entry i).state ≠ .free → (s.entry i).fields.demand = .setpoint setpoint → (s.descOf i).kind = .heavy →
    let record := if i = 0 then s.frostParams.tank else if 4 ≤ i.1 then s.sched.cabin else none
    (∀ k, record = some k → (s.measRec k).desc.kind = .temperature → (s.measRec k).freshness = .fresh →
      let v := (s.measRec k).value
      s.judgeCalling i previous
        = s.setEntry i
            { s.entry i with
              calling := if v < setpoint - 5 then true else if setpoint + 5 ≤ v then false else previous })
    ∧ ((∀ k, record = some k → (s.measRec k).desc.kind = .temperature → (s.measRec k).freshness ≠ .fresh) →
      s.judgeCalling i previous = s.setEntry i { s.entry i with calling := false })

/-! ### Chapter 8 -/

/-- R16, R17, R19, R139, R140, R146 to R148, R150, R151: a ramp event moves every RAMPING dimmer toward its target, a pulse period end loads every dimmer's duty from its shadow, an
inrush window closes, a clean time that is reached resets the trip count, and a retry expiry brings a TRIPPED channel to rest before one steady
re-evaluation; a taken descriptor commit puts the descriptor in force, keeps the counts and timers of a channel of the same kind and
resets those of one whose kind changes, with its lockout and its run; a commit of one is NOT_PERMITTED from any role but PANEL, WRONG_MODE
outside SETUP, BAD_FIELD where a field is out of range, and ACCEPTED with its fields otherwise. That an inrush time of 0 opens no window is the model's choice
(log entry 19). -/
def Obligations.ChannelTimersAct : Prop :=
  (∀ s : State, ∃ t, exec .rampEvent s = .next t
      ∧ t = { s with channels := t.channels, bank := { s.bank with ramp := 100 } }
      ∧ ∀ c : Fin 16,
        let x := s.channel c
        let up : Nat := min x.target (x.present + x.desc.rampRate)
        let down : Nat := max x.target (x.present - x.desc.rampRate)
        let level := if x.present < x.target then up else down
        (x.desc.kind = .dimmer ∧ x.state = .ramping →
          t.channel c =
            { x with
              present := level, shadow := level
              state := if level = x.target then .lit else .ramping
              inrush :=
                if x.present = 0 ∧ 0 < level then (if x.desc.inrushTime = 0 then none else some x.desc.inrushTime) else x.inrush })
        ∧ (¬ (x.desc.kind = .dimmer ∧ x.state = .ramping) → t.channel c = x))
  ∧ (∀ s : State, ∃ t, exec .pulsePeriodEnd s = .next t
      ∧ t = { s with channels := t.channels, bank := { s.bank with pulse := 10 } }
      ∧ ∀ c : Fin 16,
        t.channel c =
          if (s.channel c).desc.kind = .dimmer then { s.channel c with duty := (s.channel c).shadow } else s.channel c)
  ∧ (∀ (s : State) (c : Fin 16),
      exec (.inrushWindowClose c) s = .next (s.setChannel c { s.channel c with inrush := none }))
  ∧ (∀ (s : State) (c : Fin 16), (s.channel c).energised = true →
      exec (.cleanTimeReached c) s = .next (s.setChannel c { s.channel c with tripCount := 0, cleanTime := 0 }))
  ∧ (∀ (s : State) (c : Fin 16), (s.channel c).state = .tripped → (s.channel c).retryTimer.isSome →
      exec (.retryExpiry c) s
          = .next (s.setChannel c
              { s.channel c with
                state := if (s.channel c).desc.kind = .bridge then .stopped else .off
                retryTimer := none }).reevaluate
      ∧ ∀ t, exec (.retryExpiry c) s = .next t →
          (t.channel c).tripCount = (s.channel c).tripCount ∧ (t.channel c).state ≠ .tripped
          ∧ (t.channel c).state ≠ .lockedOut)
  ∧ (∀ (s : State) (p : PortId) (c : Fin 16) (d : ChannelDescriptor),
      let x := s.channel c
      let t := s.obey p (.channel c d)
      let y := t.channel c
      y.desc = d
      ∧ (d.kind = x.desc.kind →
        y.tripCount = x.tripCount ∧ y.cleanTime = x.cleanTime ∧ y.retryTimer = x.retryTimer
        ∧ (y.state = .tripped ↔ x.state = .tripped) ∧ (y.state = .lockedOut ↔ x.state = .lockedOut)
        ∧ ∀ r, t.budget.run = some r → r.channel = c → r.need = d.nominal)
      ∧ (d.kind ≠ x.desc.kind →
        y.tripCount = 0 ∧ y.cleanTime = 0 ∧ y.retryTimer = none ∧ y.state ≠ .tripped ∧ y.state ≠ .lockedOut
        ∧ ∀ r, t.budget.run = some r → r.channel ≠ c)
      ∧ (∀ l, l ≠ c →
        (t.channel l).desc = (s.channel l).desc ∧ (t.channel l).tripCount = (s.channel l).tripCount
        ∧ (t.channel l).cleanTime = (s.channel l).cleanTime ∧ (t.channel l).retryTimer = (s.channel l).retryTimer)
      ∧ sameElsewhere s t ∧ sameClients s t ∧ t.meas = s.meas ∧ t.sched = s.sched ∧ t.modeCtl = s.modeCtl
      ∧ t.switches = s.switches)
  ∧ (∀ (s : State) (p : PortId) (c : Fin 16) (img : Vector Byte 32),
      let b (k : Nat) : Nat := imageByte img k
      let w (k : Nat) : Nat := b k * 256 + b (k + 1)
      judgedInOrder s p (96 + c.1) img ((s.port p).role ≠ .panel) (s.mode ≠ .setup)
        ((c.1 < 14 ∧ 4 < b 0) ∨ (14 ≤ c.1 ∧ b 0 ≠ 5) ∨ 250 < b 1 ∨ w 2 ≤ b 1 ∨ 300 < w 2 ∨ b 4 = 0 ∨ 100 < b 4 ∨ 2000 < w 5)
        (∃ kind, [ChannelKind.unused, .switch, .dimmer, .heavy, .valve, .bridge][b 0]? = some kind
          ∧ s.judge p (96 + c.1) img
            = .taken .accepted
                (.channel c { kind := kind, nominal := b 1, trip := w 2, rampRate := b 4, inrushTime := w 5 })))

/-- R148, R149, R152, R162, R171: a sense event writes the sample of every channel, limited to 1000 and 0 without an on-part, and then takes the channels in ascending
order: one that is not energised, or whose sample is within its threshold, is passed over; a sample above the threshold trips its channel,
which is switched off with its retry timer started, or locked out at the fourth trip with a CHANNEL notice, as the clearing of a lockout
posts one; and a sample of the driving step bridge that does not
trip it counts in its jam run, and makes a jam at the jam time. A jam of an outward drive turns it into an automatic return, the first of an
inward drive stops it with a retry pending, and any other makes the step JAMMED. The reading of an on-part is the model's (log entry 15), and
so are the ascending order of the trips and that a sample which trips is not judged for a jam (log entry 21), that an inrush window that is
open stays open at a trip (log entry 19), and that JAM stands before JAMMED where one jam posts both (log entry 14). -/
def Obligations.SenseEventSamplesAndTrips : Prop :=
  (∀ (s : State) (samples : List Nat), samples.length = 16 →
      let sampled : State :=
        s.setBudget
          { s.budget with
            rows := Vector.ofFn fun c =>
              { s.row c with
                sensed :=
                  if (if (s.channel c).desc.kind = .dimmer then 0 < (s.channel c).duty else (s.channel c).energised = true) then
                    min (samples.getD c.1 0) 1000
                  else 0 } }
      exec (.senseEvent samples) s = .next ((List.finRange 16).foldl (fun t c => t.senseChannel c) sampled)
      ∧ ((s.channel 14).energised = false →
        (∀ c : Fin 16, (s.channel c).energised = true →
          min (samples.getD c.1 0) 1000
            ≤ (if (s.channel c).inrush.isSome then 2 * (s.channel c).desc.trip else (s.channel c).desc.trip)) →
        exec (.senseEvent samples) s = .next sampled))
  ∧ (∀ (s : State) (c : Fin 16),
      let x := s.channel c
      let sample := (s.row c).sensed
      let threshold := if x.inrush.isSome then 2 * x.desc.trip else x.desc.trip
      (x.energised = false → s.senseChannel c = s)
      ∧ (x.energised = true → threshold < sample → s.senseChannel c = s.trip c)
      ∧ (x.energised = true → sample ≤ threshold → c ≠ 14 → s.senseChannel c = s)
      ∧ (x.energised = true → sample ≤ threshold → c = 14 →
        s.senseChannel c = motionEvent (fun t => t.stepSample sample x.inrush.isSome) s))
  ∧ (∀ (s : State) (c : Fin 16),
      let x := s.channel c
      let n := min 4 (x.tripCount + 1)
      (s.trip c).channel c =
          { x with
            state := if n = 4 then .lockedOut else .tripped
            target := 0, present := 0, duty := 0, shadow := 0, tripCount := n, cleanTime := 0, deadTimer := none
            pendingDir := .none
            retryTimer := if n = 1 then some 1000 else if n = 2 then some 4000 else if n = 3 then some 16000 else none }
      ∧ ((s.trip c).channel c).energised = false
      ∧ (∀ r, (s.trip c).budget.run = some r → r.channel ≠ c)
      ∧ tells s (s.trip c) .channel (fun _ =>
          if n = 4 then
            [{ kind := .channel, subject := 96 + c.1, value := x.state.code * 256 + ChannelState.lockedOut.code }]
          else []))
  ∧ (∀ (s : State) (c : Fin 16),
      let x := s.channel c
      let rest : ChannelState := if x.desc.kind = .bridge then .stopped else .off
      (x.state ≠ .lockedOut → s.clearLockout c = s)
      ∧ (x.state = .lockedOut →
        s.clearLockout c
          = (s.setChannel c { x with state := rest, tripCount := 0, cleanTime := 0 }).postAll
              { kind := .channel, subject := 96 + c.1, value := ChannelState.lockedOut.code * 256 + rest.code }))
  ∧ (∀ (s : State) (sample : Nat) (inrush : Bool), s.owed = false →
      (sample ≤ s.motionParams.stepJamCurrent ∨ inrush = true →
        motionEvent (fun t => t.stepSample sample inrush) s = s.setStep { s.step with jamRun := 0 })
      ∧ (s.motionParams.stepJamCurrent < sample → inrush = false → s.step.jamRun + 1 < s.motionParams.stepJamTime * 10 →
        motionEvent (fun t => t.stepSample sample inrush) s = s.setStep { s.step with jamRun := s.step.jamRun + 1 }))
  ∧ (∀ (s : State) (sample : Nat), s.motionParams.stepJamCurrent < sample →
      s.motionParams.stepJamTime * 10 ≤ s.step.jamRun + 1 →
      let m := s.step
      let x := s.channel 14
      let notice (event state : Nat) : Notice := { kind := .motion, subject := 110, value := event * 256 + state }
      let dead (d : Direction) : State := s.setChannel 14 { x with state := .dead, deadTimer := some 300, pendingDir := d }
      (m.state = .extending → x.state = .driveOut →
        s.stepSample sample false
          = ((dead .inward).setStep { m with state := .reversing, autoReturn := true, jamRun := 0, travelTimer := none }).postAll
              (notice 1 4))
      ∧ (m.state = .retracting → x.state = .driveIn → m.autoReturn = false → m.jamRetry = .none →
        s.stepSample sample false
          = ((dead .none).setStep
                { m with
                  state := .halted, jamRetry := .pending, jamRun := 0, travelTimer := none, retryTimer := some 2000 }).postAll
              (notice 1 5))
      ∧ (m.state = .retracting → x.state = .driveIn → m.autoReturn = true ∨ m.jamRetry = .used → ∀ o,
          m.operation = some o → (s.entry o.entry).state = .granted → (s.entry o.entry).fields.channel = 14 →
        s.stepSample sample false
          = (((((dead .none).setEntry o.entry
                  { s.entry o.entry with state := .done, reason := .jammed, grantedLevel := none, holdTimer := none }).setStep
                { m with
                  state := .jammed, operation := none, autoReturn := false, jamRetry := .none, jamRun := 0
                  travelTimer := none, retryTimer := none }).setOwed true).postAll (notice 1 6)).postAll (notice 3 6)))

/-- R153, R158, R163, R166: at the expiry of its dead timer a bridge with no direction pending is STOPPED; with a direction pending the step or the awning drives
in it, and its machine enters the drive with its timers loaded. That an inrush time of 0 opens no window is the model's choice (log
entry 19). -/
def Obligations.DeadTimerExpiryDrivesOrStops : Prop :=
  ∀ s : State, s.owed = false →
    let driven (c : Fin 16) (st : ChannelState) : State :=
      s.setChannel c
        { s.channel c with
          state := st, deadTimer := none, pendingDir := .none
          inrush := if (s.channel c).desc.inrushTime = 0 then none else some (s.channel c).desc.inrushTime }
    (∀ b : Bridge, (s.channel (bridgeChannel b)).state = .dead → (s.channel (bridgeChannel b)).pendingDir = .none →
      exec (.deadTimerExpiry b) s
        = .next (s.setChannel (bridgeChannel b) { s.channel (bridgeChannel b) with state := .stopped, deadTimer := none }))
    ∧ ((s.channel 14).state = .dead → s.step.state = .reversing →
      let driving (st : ChannelState) (m : StepState) : State :=
        (driven 14 st).setStep
          { s.step with state := m, travelTimer := some (s.motionParams.stepTravelMax * 100), jamRun := 0 }
      ((s.channel 14).pendingDir = .outward → exec (.deadTimerExpiry .step) s = .next (driving .driveOut .extending))
      ∧ ((s.channel 14).pendingDir = .inward → exec (.deadTimerExpiry .step) s = .next (driving .driveIn .retracting)))
    ∧ ((s.channel 15).state = .dead → s.awning.state = .reversing →
      let driving (st : ChannelState) (m : AwningState) (d : Direction) : State :=
        (driven 15 st).setAwning
          { s.awning with
            state := m, lastDrive := d, stallTimer := some (s.motionParams.stallInterval * 100)
            travelTimer := some (s.motionParams.awningTravelTimeout * 1000) }
      ((s.channel 15).pendingDir = .outward → (∀ n, s.awning.target = some (.count n) → s.awning.count < n) →
        exec (.deadTimerExpiry .awning) s = .next (driving .driveOut .extending .outward))
      ∧ ((s.channel 15).pendingDir = .inward → (∀ n, s.awning.target = some (.count n) → n < s.awning.count) →
        exec (.deadTimerExpiry .awning) s = .next (driving .driveIn .retracting .inward)))

/-! ### Chapter 9 -/

/-- R160, R170: a change of a step switch resolves a step that stands with no operation and no retry pending, with a READINESS notice where the verdict
changes; the in-switch ends an inward drive, a reversal inward and a wait for the jam retry with the entry DONE for COMPLETE, or for JAMMED at
the end of an automatic return; the out-switch ends an outward drive or reversal with COMPLETE; an activation during a drive toward the
other end sets the timeout count to 0 alone; and both switches active make FAULT, with the entry of any operation DONE for FAULT. That the
out-switch does no more than set the timeout count to 0 in HALTED with a retry PENDING is the model's choice (log entry 38), and so is FAULT
from JAMMED (log entry 13). -/
def Obligations.StepSwitchChanges : Prop :=
  (∀ (s : State) (inSwitch active : Bool), s.owed = false → s.step.operation = none → s.step.jamRetry ≠ .pending →
      s.step.state = .retracted ∨ s.step.state = .extended ∨ (active = true ∧ s.step.state = .halted) →
      (if inSwitch then s.switches.stepIn else s.switches.stepOut) ≠ active →
      let sw : Switches := if inSwitch then { s.switches with stepIn := active } else { s.switches with stepOut := active }
      ¬ (sw.stepIn = true ∧ sw.stepOut = true) →
      let st : StepState :=
        if sw.stepIn then .retracted else if sw.stepOut then (if s.mode = .travel then .halted else .extended) else .halted
      let t : State :=
        { s with
          switches := sw, step := { s.step with state := st, timeouts := if active then 0 else s.step.timeouts } }
      exec (if inSwitch then .stepInSwitchChange active else .stepOutSwitchChange active) s
        = .next
            (if t.ready = s.ready then t
            else t.postAll { kind := .readiness, subject := 117, value := if t.ready then 1 else 0 }))
  ∧ (∀ (s : State) (o : Operation),
      s.step.state = .retracting ∨ (s.step.state = .reversing ∧ (s.channel 14).pendingDir = .inward)
        ∨ (s.step.state = .halted ∧ s.step.jamRetry = .pending) →
      s.step.operation = some o → (s.entry o.entry).state = .granted → (s.entry o.entry).fields.channel = 14 →
      s.switches.stepIn = false → s.switches.stepOut = false →
      ∃ t, exec (.stepInSwitchChange true) s = .next t
        ∧ (t.entry o.entry).state = .done
        ∧ (t.entry o.entry).reason = (if s.step.autoReturn then .jammed else .complete)
        ∧ t.switches = { s.switches with stepIn := true }
        ∧ sameElsewhere s t ∧ sameClients s t ∧ t.meas = s.meas ∧ t.sched = s.sched ∧ t.modeCtl = s.modeCtl)
  ∧ (∀ (s : State) (o : Operation),
      s.step.state = .extending ∨ (s.step.state = .reversing ∧ (s.channel 14).pendingDir = .outward) →
      s.step.operation = some o → (s.entry o.entry).state = .granted → (s.entry o.entry).fields.channel = 14 →
      s.switches.stepIn = false → s.switches.stepOut = false →
      ∃ t, exec (.stepOutSwitchChange true) s = .next t
        ∧ (t.entry o.entry).state = .done ∧ (t.entry o.entry).reason = .complete
        ∧ t.switches = { s.switches with stepOut := true }
        ∧ sameElsewhere s t ∧ sameClients s t ∧ t.meas = s.meas ∧ t.sched = s.sched ∧ t.modeCtl = s.modeCtl)
  ∧ (∀ s : State, s.owed = false → s.switches.stepIn = false → s.switches.stepOut = false →
      let d := (s.channel 14).pendingDir
      let counted : State := s.setStep { s.step with timeouts := 0 }
      (s.step.state = .retracting ∨ (s.step.state = .reversing ∧ d = .inward)
          ∨ (s.step.state = .halted ∧ s.step.operation.isSome ∧ s.step.jamRetry = .pending) →
        exec (.stepOutSwitchChange true) s = .next { counted with switches := { s.switches with stepOut := true } })
      ∧ (s.step.state = .extending ∨ (s.step.state = .reversing ∧ d = .outward) →
        exec (.stepInSwitchChange true) s = .next { counted with switches := { s.switches with stepIn := true } }))
  ∧ (∀ (s : State) (inSwitch : Bool), s.step.state ≠ .fault →
      s.switches.stepIn = !inSwitch → s.switches.stepOut = inSwitch →
      let both : Switches := { s.switches with stepIn := true, stepOut := true }
      let change : Instr := if inSwitch then .stepInSwitchChange true else .stepOutSwitchChange true
      (∃ t, exec change s = .next t
        ∧ t.step.state = .fault ∧ t.switches = both
        ∧ (∀ o, s.step.operation = some o → (s.entry o.entry).state = .granted → (s.entry o.entry).fields.channel = 14 →
          (t.entry o.entry).state = .done ∧ (t.entry o.entry).reason = .fault)
        ∧ sameElsewhere s t ∧ sameClients s t ∧ t.meas = s.meas ∧ t.sched = s.sched ∧ t.modeCtl = s.modeCtl)
      ∧ (s.owed = false → s.step.operation = none → s.step.jamRetry ≠ .pending →
        s.step.state = .retracted ∨ s.step.state = .extended ∨ s.step.state = .halted → (s.channel 14).state = .stopped →
        let t : State :=
          ({ s with
              switches := both
              step :=
                { state := .fault, operation := none, autoReturn := false, timeouts := 0, jamRetry := .none, jamRun := 0
                  travelTimer := none, retryTimer := none } } : State).postAll
            { kind := .motion, subject := 110, value := 5 * 256 + 7 }
        exec change s
          = .next
              (if t.ready = s.ready then t
              else t.postAll { kind := .readiness, subject := 117, value := if t.ready then 1 else 0 })))

/-- R16, R17, R19, R155, R163, R165, R166, R168, R170: the in-switch resolves an awning that stands with no operation, and sets its count to 0 with the count before as the last
drift; it ends an inward drive, a reversal inward and a wait for the stall retry with the entry DONE for COMPLETE, and leaves an outward
drive, JAMMED and FAULT as they stand; a hall pulse counts in the direction of the drive, or of the last drive while the awning coasts,
within 0..Pmax, and one at which the count reaches the target ends the operation with COMPLETE; a taken commit of the motion parameters
brings count and target within the new Pmax, keeps the timers, and sets the wind run count to 0 where the WIND designation changes; it calls for a
re-evaluation where the awning's verdict changes, or the wind between KNOWN and UNKNOWN, and for none otherwise; a commit of them is NOT_PERMITTED from any role but PANEL,
WRONG_MODE outside SETUP, BAD_FIELD where a field is out of range, and ACCEPTED with its fields otherwise. That the in-switch leaves a
reversal outward as it stands, that the commit keeps the last drift count, and that it keeps an active wind hold where the designation becomes
NONE, are the model's choices (log entries 38, 39 and 45). -/
def Obligations.AwningSwitchAndPulses : Prop :=
  (∀ s : State, s.owed = false → s.awning.operation = none → s.awning.stallRetry ≠ .pending →
      let say (t : State) : State :=
        if t.ready = s.ready then t
        else t.postAll { kind := .readiness, subject := 117, value := if t.ready then 1 else 0 }
      (s.awning.state = .out → s.switches.awningIn = false →
        let t : State :=
          { s with
            switches := { s.switches with awningIn := true }
            awning := { s.awning with state := .retracted, lastDrift := s.awning.count, count := 0 } }
        exec (.awningInSwitchChange true) s
          = .next (say
              (if s.motionParams.syncSlack < s.awning.count then
                t.postAll { kind := .motion, subject := 111, value := 7 * 256 + 0 }
              else t)))
      ∧ (s.awning.state = .retracted → s.switches.awningIn = true →
        exec (.awningInSwitchChange false) s
          = .next (say
              { s with
                switches := { s.switches with awningIn := false }
                awning := { s.awning with state := .out } })))
  ∧ (∀ (s : State) (o : Operation),
      s.awning.state = .retracting ∨ (s.awning.state = .reversing ∧ (s.channel 15).pendingDir = .inward) →
      s.awning.operation = some o → (s.entry o.entry).state = .granted → (s.entry o.entry).fields.channel = 15 →
      s.switches.awningIn = false →
      ∃ t, exec (.awningInSwitchChange true) s = .next t
        ∧ (t.entry o.entry).state = .done ∧ (t.entry o.entry).reason = .complete
        ∧ t.awning.count = 0 ∧ t.awning.lastDrift = s.awning.count
        ∧ t.switches = { s.switches with awningIn := true }
        ∧ sameElsewhere s t ∧ sameClients s t ∧ t.meas = s.meas ∧ t.sched = s.sched ∧ t.modeCtl = s.modeCtl)
  ∧ (∀ s : State, s.owed = false → s.switches.awningIn = false →
      s.awning.state = .extending ∨ s.awning.state = .jammed ∨ s.awning.state = .fault
        ∨ (s.awning.state = .reversing ∧ (s.channel 15).pendingDir = .outward) →
      let t : State :=
        { s with
          switches := { s.switches with awningIn := true }
          awning := { s.awning with lastDrift := s.awning.count, count := 0 } }
      exec (.awningInSwitchChange true) s
        = .next
            (if s.motionParams.syncSlack < s.awning.count then
              t.postAll { kind := .motion, subject := 111, value := 7 * 256 + s.awning.state.code }
            else t))
  ∧ (∀ (s : State) (o : Operation) (goal : Nat),
      s.awning.operation = some o → (s.entry o.entry).state = .granted → (s.entry o.entry).fields.channel = 15 →
      s.awning.target = some (.count goal) →
      let out := min s.motionParams.pmax (s.awning.count + 1)
      let back := min s.motionParams.pmax (s.awning.count - 1)
      let ends (n : Nat) : Prop :=
        ∃ t, exec .awningHallPulse s = .next t
          ∧ (t.entry o.entry).state = .done ∧ (t.entry o.entry).reason = .complete ∧ t.awning.count = n
          ∧ sameElsewhere s t ∧ sameClients s t ∧ t.meas = s.meas ∧ t.sched = s.sched ∧ t.modeCtl = s.modeCtl
          ∧ t.switches = s.switches
      ((s.channel 15).state = .driveOut → goal ≤ out → ends out)
      ∧ ((s.channel 15).state = .driveIn → back ≤ goal → ends back))
  ∧ (∀ s : State, s.owed = false →
      let n := s.awning.count
      let pmax := s.motionParams.pmax
      let stall := some (s.motionParams.stallInterval * 100)
      ((s.channel 15).state = .dead ∨ (s.channel 15).state = .stopped ∨ (s.channel 15).state = .tripped
          ∨ (s.channel 15).state = .lockedOut →
        exec .awningHallPulse s
          = .next (s.setAwning
              { s.awning with
                count :=
                  match s.awning.lastDrive with
                  | .outward => min pmax (n + 1)
                  | .inward => min pmax (n - 1)
                  | .none => n }))
      ∧ ((s.channel 15).state = .driveOut → (∀ t, s.awning.target = some (.count t) → min pmax (n + 1) < t) →
        exec .awningHallPulse s = .next (s.setAwning { s.awning with count := min pmax (n + 1), stallTimer := stall }))
      ∧ ((s.channel 15).state = .driveIn → (∀ t, s.awning.target = some (.count t) → t < min pmax (n - 1)) →
        exec .awningHallPulse s = .next (s.setAwning { s.awning with count := min pmax (n - 1), stallTimer := stall })))
  ∧ (∀ (s : State) (p : PortId) (q : MotionParams),
      let t := s.obey p (.motionParams q)
      let u : State :=
        { s with
          motionParams := q
          awning :=
            { s.awning with
              count := min s.awning.count q.pmax
              target := match s.awning.target with | some (.count n) => some (.count (min n q.pmax)) | other => other }
          wind := { s.wind with runCount := if q.wind = s.motionParams.wind then s.wind.runCount else 0 } }
      t.motionParams = q ∧ t.awning.count = u.awning.count ∧ t.awning.lastDrift = s.awning.lastDrift ∧ t.wind = u.wind
      ∧ (let informs : Prop :=
          u.awningBlocked ≠ s.awningBlocked ∨ (s.windKnown = .known ∧ u.windKnown = .unknown)
            ∨ (s.windKnown = .unknown ∧ u.windKnown = .known)
        s.owed = false → (informs → t = u.reevaluate) ∧ (¬ informs → t = u))
      ∧ t.engine = s.engine ∧ t.line = s.line ∧ t.account = s.account ∧ t.meas = s.meas ∧ t.sched = s.sched
      ∧ t.frost = s.frost ∧ t.modeCtl = s.modeCtl ∧ t.switches = s.switches ∧ sameClients s t)
  ∧ (∀ (s : State) (p : PortId) (img : Vector Byte 32),
      let b (k : Nat) : Nat := imageByte img k
      let w (k : Nat) : Nat := b k * 256 + b (k + 1)
      let bad : Prop :=
        b 0 < 5 ∨ 100 < b 0 ∨ w 1 = 0 ∨ 300 < w 1 ∨ b 3 = 0 ∨ 10 < b 3 ∨ w 4 < 100 ∨ 4000 < w 4 ∨ b 6 = 0 ∨ 20 < b 6
          ∨ 200 < b 7 ∨ b 8 < 10 ∨ 90 < b 8 ∨ namesNoRecord (b 9) ∨ 600 < w 10 ∨ b 12 = 0 ∨ 10 < b 12 ∨ w 13 < w 10
          ∨ 600 < w 13 ∨ b 15 = 0 ∨ 60 < b 15
      judgedInOrder s p 118 img ((s.port p).role ≠ .panel) (s.mode ≠ .setup) bad
        (∃ wind, namesRecord wind (b 9)
          ∧ s.judge p 118 img
            = .taken .accepted
                (.motionParams
                  { stepTravelMax := b 0, stepJamCurrent := w 1, stepJamTime := b 3, pmax := w 4, stallInterval := b 6
                    syncSlack := b 7, awningTravelTimeout := b 8, wind := wind, windLimit := w 10, windCount := b 12
                    gustLimit := w 13, windHoldTime := b 15 })))

/-- R153, R156 to R159, R162, R171: how the step carries out what the allocator hands it, by its state: the same operation goes on; a new demand drives, waits in
REVERSING, goes on or ends at once with its entry DONE, by the table of R159; FAULT and JAMMED end it, and a STOP clears them; an automatic return
that a demand takes over first ends for JAMMED, its timing stopped; the loss of the grant stops a step in an operation and leaves no operation; a
command that the bank refuses leaves the step resolved, with no operation; and so does a trip, but for an automatic return and a drive under a jam
retry, whose entry, unless it is entry 0 or 1, is DONE for JAMMED. That an entry which is DONE already keeps its reason (log entry 12), and the two cells where a jam retry is
PENDING with the switch active (log entry 42), and that the drive of an automatic return which a RETRACT demand takes over goes on with no travel
timer running (log entry 46), are the model's choices. -/
def Obligations.StepDemandsMove : Prop :=
  (∀ (s : State) (o : Operation), s.step.operation = some o → s.stepHand (some o) = s)
  ∧ (∀ (s : State) (o : Operation), s.step.operation ≠ some o → s.step.autoReturn = false →
    (s.entry o.entry).state = .granted ∨ (s.entry o.entry).state = .done → (s.entry o.entry).fields.channel = 14 →
    let x := s.channel 14
    let stands : Prop := x.state = .stopped ∨ x.state = .dead
    let refused : Prop := x.state = .tripped ∨ x.state = .lockedOut
    let t := s.stepHand (some o)
    let ends (r : Reason) (st : StepState) : State := stepEnded s o.entry r st x
    let halts : State := stepEnded s o.entry .complete (stepAtRest s) (bridgeStopped x)
    let drives (d : Direction) : Prop :=
      (stands → t = stepDriven s o d) ∧ (refused → t = s.setStep (stepIdle { s.step with state := stepAtRest s }))
    let notice (event : Nat) (st : StepState) : Notice := { kind := .motion, subject := 110, value := event * 256 + st.code }
    let cleared (r : Reason) : State :=
      let u := ends r (stepAtRest s)
      u.setStep { u.step with timeouts := 0 }
    (s.step.state = .retracted →
      (o.value = .extend → drives .outward) ∧ (o.value = .retract ∨ o.value = .stop → t = ends .complete .retracted))
    ∧ (s.step.state = .extended →
      (o.value = .retract → drives .inward) ∧ (o.value = .extend ∨ o.value = .stop → t = ends .complete .extended))
    ∧ (s.step.state = .halted →
      let waits : Prop := s.step.jamRetry = .pending ∧ ∃ p, s.step.operation = some p ∧ p.value = .retract
      (o.value = .extend →
        (s.switches.stepOut = true → t = ends .complete .halted) ∧ (s.switches.stepOut = false → drives .outward))
      ∧ (o.value = .retract →
        (waits → t = s.setStep { s.step with operation := some o })
        ∧ (¬ waits →
          (s.switches.stepIn = true → t = ends .complete .halted) ∧ (s.switches.stepIn = false → drives .inward)))
      ∧ (o.value = .stop → t = ends .complete (stepAtRest s)))
    ∧ (s.step.state = .extending → x.state = .driveOut →
      (o.value = .extend → t = s.setStep (stepTaken s.step o)) ∧ (o.value = .retract → t = stepDriven s o .inward)
      ∧ (o.value = .stop → t = halts))
    ∧ (s.step.state = .retracting → x.state = .driveIn →
      (o.value = .retract → t = s.setStep (stepTaken s.step o)) ∧ (o.value = .extend → t = stepDriven s o .outward)
      ∧ (o.value = .stop → t = halts))
    ∧ (s.step.state = .reversing → x.state = .dead →
      (o.value = .extend → t = stepDriven s o .outward) ∧ (o.value = .retract → t = stepDriven s o .inward)
      ∧ (o.value = .stop → t = halts))
    ∧ (s.step.state = .jammed ∨ s.step.state = .fault →
      (o.value = .extend ∨ o.value = .retract →
        t = if s.step.state = .jammed then ends .jammed .jammed else ends .fault .fault)
      ∧ (o.value = .stop →
        (stepAtRest s = .fault → t = (cleared .fault).postAll (notice 5 .fault))
        ∧ (stepAtRest s ≠ .fault → t = (cleared .complete).postAll (notice 6 (stepAtRest s))))))
  ∧ (∀ (s : State) (o p : Operation), s.step.operation = some p → o ≠ p → s.step.autoReturn = true →
    (s.entry p.entry).state = .granted → (s.entry p.entry).fields.channel = 14 →
    s.stepHand (some o) = (stepEnded s p.entry .jammed s.step.state (s.channel 14)).stepHand (some o))
  ∧ (∀ s : State,
    let m := s.step
    let moves : Prop := m.state = .extending ∨ m.state = .retracting ∨ m.state = .reversing ∨ m.jamRetry = .pending
    (¬ moves → m.operation = none → s.stepHand none = s)
    ∧ (¬ moves → m.operation.isSome → s.stepHand none = s.setStep (stepIdle m))
    ∧ (moves →
      s.stepHand none
        = (s.setChannel 14 (bridgeStopped (s.channel 14))).setStep (stepIdle { m with state := stepAtRest s })))
  ∧ (∀ s : State, kindsLaw s →
    let m := s.step
    let t := s.trip 14
    t.owed = false →
    t.step = stepIdle { m with state := stepAtRest s }
    ∧ ∀ o, m.operation = some o → 2 ≤ o.entry.1 → (s.entry o.entry).state = .granted →
      (s.entry o.entry).fields.channel = 14 → m.autoReturn = true ∨ m.jamRetry = .used →
      (t.entry o.entry).state = .done ∧ (t.entry o.entry).reason = .jammed)

/-- R153, R156 to R158, R163 to R166, R171: how the awning carries out what the allocator hands it, by its state, its count and the demand's target: the same
operation goes on; a new demand drives to its target, waits in REVERSING, goes on to a new target or ends at once with its entry DONE, by the
table of R164; JAMMED and FAULT end it, and a STOP clears them with the count kept; the loss of the grant stops an awning in an operation and
leaves no operation and no target; a command that the bank refuses leaves it resolved, with no operation; and so does a trip, but for a drive
under a stall retry, whose entry, unless it is entry 0 or 1, is DONE for JAMMED. That an inward demand keeps the stall retry USED too, that the mark becomes
NONE with the operation, and that an entry which is DONE already keeps its reason, are the model's choices (log entry 12). -/
def Obligations.AwningDemandsMove : Prop :=
  (∀ (s : State) (o : Operation), s.awning.operation = some o → s.awningHand (some o) = s)
  ∧ (∀ (s : State) (o : Operation), s.awning.operation ≠ some o →
    (s.entry o.entry).state = .granted ∨ (s.entry o.entry).state = .done → (s.entry o.entry).fields.channel = 15 →
    let x := s.channel 15
    let pmax := s.motionParams.pmax
    let n := s.awning.count
    let stands : Prop := x.state = .stopped ∨ x.state = .dead
    let refused : Prop := x.state = .tripped ∨ x.state = .lockedOut
    let t := s.awningHand (some o)
    let ends (r : Reason) (st : AwningState) : State := awningEnded s o.entry r st x
    let halts : State := awningEnded s o.entry .complete (awningAtRest s) (bridgeStopped x)
    let home : State := awningDriven s o true .home .inward
    let seeks (goal : Nat) : State :=
      if goal = n then halts
      else if n < goal then awningDriven s o false (.count goal) .outward
      else awningDriven s o true (.count goal) .inward
    let aims (inward : Bool) (goal : AwningTarget) : State :=
      s.setAwning { awningTaken s.awning o inward with target := some goal }
    let drives (u : State) : Prop :=
      (stands → t = u) ∧ (refused → t = s.setAwning (awningIdle { s.awning with state := awningAtRest s }))
    let cleared : State :=
      (ends .complete (awningAtRest s)).postAll { kind := .motion, subject := 111, value := 6 * 256 + (awningAtRest s).code }
    let goalIs (g : Nat) : Prop :=
      (o.value = .extend ∧ g = pmax) ∨ ∃ p, o.value = .position p ∧ g = (pmax * p + 50) / 100
    (s.awning.state = .retracted →
      (o.value = .retract ∨ o.value = .stop → t = ends .complete .retracted)
      ∧ (∀ p, o.value = .position p → (pmax * p + 50) / 100 = 0 → t = ends .complete .retracted)
      ∧ (∀ g, goalIs g → n < g → drives (awningDriven s o false (.count g) .outward)))
    ∧ (s.awning.state = .out →
      (o.value = .stop → t = ends .complete .out) ∧ (o.value = .retract → drives home)
      ∧ (∀ g, goalIs g →
        (g = n → t = ends .complete .out) ∧ (n < g → drives (seeks g))
        ∧ (g < n → o.value ≠ .extend → drives (seeks g))))
    ∧ (s.awning.state = .extending → x.state = .driveOut →
      (o.value = .stop → t = halts) ∧ (o.value = .retract → t = home)
      ∧ (o.value = .extend → t = aims false (.count pmax))
      ∧ (∀ p, o.value = .position p →
        let g := (pmax * p + 50) / 100
        (n < g → t = aims false (.count g)) ∧ (g ≤ n → t = seeks g)))
    ∧ (s.awning.state = .retracting → x.state = .driveIn →
      (o.value = .stop → t = halts) ∧ (o.value = .retract → t = aims true .home)
      ∧ (o.value = .extend → t = awningDriven s o false (.count pmax) .outward)
      ∧ (∀ p, o.value = .position p →
        let g := (pmax * p + 50) / 100
        (g < n → t = aims true (.count g)) ∧ (n ≤ g → t = seeks g)))
    ∧ (s.awning.state = .reversing → x.state = .dead →
      (o.value = .stop → t = halts) ∧ (o.value = .retract → t = home)
      ∧ (o.value = .extend → t = awningDriven s o false (.count pmax) .outward)
      ∧ (∀ p, o.value = .position p → t = seeks ((pmax * p + 50) / 100)))
    ∧ (s.awning.state = .retracting → s.awning.stallRetry = .pending → stands →
      (o.value = .retract → t = aims true .home) ∧ (o.value = .stop → t = halts)
      ∧ (∀ g, goalIs g → (g < n → o.value ≠ .extend → t = aims true (.count g)) ∧ (g = n → o.value ≠ .extend → t = halts)
        ∧ (n < g → t = seeks g)))
    ∧ (s.awning.state = .jammed ∨ s.awning.state = .fault →
      (o.value ≠ .stop → t = if s.awning.state = .jammed then ends .jammed .jammed else ends .fault .fault)
      ∧ (o.value = .stop → t = cleared)))
  ∧ (∀ s : State,
    let m := s.awning
    let moves : Prop := m.state = .extending ∨ m.state = .retracting ∨ m.state = .reversing ∨ m.stallRetry = .pending
    (¬ moves → m.operation = none → s.awningHand none = s)
    ∧ (¬ moves → m.operation.isSome → s.awningHand none = s.setAwning (awningIdle m))
    ∧ (moves →
      s.awningHand none
        = (s.setChannel 15 (bridgeStopped (s.channel 15))).setAwning (awningIdle { m with state := awningAtRest s })))
  ∧ (∀ s : State, kindsLaw s →
    let m := s.awning
    let t := s.trip 15
    t.owed = false →
    t.awning = awningIdle { m with state := awningAtRest s }
    ∧ ∀ o, m.operation = some o → 2 ≤ o.entry.1 → (s.entry o.entry).state = .granted →
      (s.entry o.entry).fields.channel = 15 → m.stallRetry = .used →
      (t.entry o.entry).state = .done ∧ (t.entry o.entry).reason = .jammed)

/-- R157, R161, R166, R171: a travel timeout, and a stall other than the first of an inward drive, ends the operation with its entry DONE for the reason of the case;
the bridge is stopped, and the step becomes HALTED at the first timeout in a row and FAULT at the second, the awning OUT from EXTENDING, and
from RETRACTING FAULT at a timeout and JAMMED at a stall; each with its MOTION notice, the timing stopped, and the allocator informed. That the
awning's stall retry mark becomes NONE with its operation, at JAMMED too, is the model's choice (log entry 12), and that the awning is OUT after
an outward stall or timeout whatever its in-switch, where R166 and R158 differ, is its reading (log entry 20). -/
def Obligations.MotionTimersEndTheOperation : Prop :=
  (∀ (s : State) (o : Operation), s.step.travelTimer.isSome → s.step.operation = some o →
      (s.entry o.entry).state = .granted → (s.entry o.entry).fields.channel = 14 →
      exec .stepTravelTimerExpiry s = .next (motionEvent State.stepTimeout s)
      ∧ ∃ t, exec .stepTravelTimerExpiry s = .next t
        ∧ (t.entry o.entry).state = .done
        ∧ (t.entry o.entry).reason =
            (if s.step.timeouts = 0 then (if s.step.autoReturn then .jammed else .timeout) else .fault)
        ∧ sameElsewhere s t ∧ sameClients s t ∧ t.meas = s.meas ∧ t.sched = s.sched ∧ t.modeCtl = s.modeCtl
        ∧ t.switches = s.switches)
  ∧ (∀ (s : State) (o : Operation), s.step.operation = some o →
      (s.entry o.entry).state = .granted → (s.entry o.entry).fields.channel = 14 →
      let ended (r : Reason) (st : StepState) (count : Nat) : State :=
        let u := stepEnded s o.entry r st (bridgeStopped (s.channel 14))
        u.setStep { u.step with timeouts := count }
      (s.step.timeouts = 0 →
        s.stepTimeout =
          (ended (if s.step.autoReturn then .jammed else .timeout) .halted 1).postAll
            { kind := .motion, subject := 110, value := 4 * 256 + StepState.halted.code })
      ∧ (0 < s.step.timeouts →
        s.stepTimeout = (ended .fault .fault 2).postAll { kind := .motion, subject := 110, value := 5 * 256 + StepState.fault.code }))
  ∧ (∀ (s : State) (o : Operation), s.awning.operation = some o →
      (s.entry o.entry).state = .granted → (s.entry o.entry).fields.channel = 15 →
      (s.awning.stallTimer.isSome →
        s.awning.state = .extending ∨ (s.awning.state = .retracting ∧ s.awning.stallRetry = .used) →
        exec .awningStallTimerExpiry s = .next (motionEvent State.awningStall s)
        ∧ ∃ t, exec .awningStallTimerExpiry s = .next t
          ∧ (t.entry o.entry).state = .done ∧ (t.entry o.entry).reason = .jammed
          ∧ sameElsewhere s t ∧ sameClients s t ∧ t.meas = s.meas ∧ t.sched = s.sched ∧ t.modeCtl = s.modeCtl
          ∧ t.switches = s.switches)
      ∧ (s.awning.travelTimer.isSome → s.awning.state = .extending ∨ s.awning.state = .retracting →
        exec .awningTravelTimerExpiry s = .next (motionEvent State.awningTimeout s)
        ∧ ∃ t, exec .awningTravelTimerExpiry s = .next t
          ∧ (t.entry o.entry).state = .done
          ∧ (t.entry o.entry).reason = (if s.awning.state = .extending then .timeout else .fault)
          ∧ sameElsewhere s t ∧ sameClients s t ∧ t.meas = s.meas ∧ t.sched = s.sched ∧ t.modeCtl = s.modeCtl
          ∧ t.switches = s.switches)
      ∧ (let ended (r : Reason) (st : AwningState) (event : Nat) : State :=
          (awningEnded s o.entry r st (bridgeStopped (s.channel 15))).postAll
            { kind := .motion, subject := 111, value := event * 256 + st.code }
        (s.awning.state = .extending →
          s.awningStall = ended .jammed .out 2 ∧ s.awningTimeout = ended .timeout .out 4)
        ∧ (s.awning.state = .retracting →
          (s.awning.stallRetry = .used → s.awningStall = ended .jammed .jammed 3)
          ∧ s.awningTimeout = ended .fault .fault 5)))

/-- R162, R166: a stall of an inward drive stops it with a retry pending and a STALL notice; at its expiry a jam retry or a stall retry that is pending
drives in, with the retry marked USED and the timers of the drive loaded. That an inrush time of 0 opens no window is the model's choice (log
entry 19). -/
def Obligations.RetriesWaitAndDriveIn : Prop :=
  (∀ s : State, s.owed = false → s.awning.stallTimer.isSome → s.awning.state = .retracting → s.awning.stallRetry = .none →
      (s.channel 15).state = .driveIn →
      exec .awningStallTimerExpiry s
        = .next (((s.setChannel 15
              { s.channel 15 with state := .dead, deadTimer := some 300, pendingDir := .none }).setAwning
            { s.awning with stallTimer := none, travelTimer := none, stallRetry := .pending, retryTimer := some 2000 }).postAll
          { kind := .motion, subject := 111, value := 2 * 256 + 3 }))
  ∧ (∀ s : State, s.owed = false →
      let started (x : Channel) : Channel :=
        { x with
          state := .driveIn, deadTimer := none, pendingDir := .none
          inrush := if x.desc.inrushTime = 0 then none else some x.desc.inrushTime }
      (s.step.retryTimer.isSome → s.step.state = .halted → s.step.jamRetry = .pending → (s.channel 14).state = .stopped →
        exec .stepJamRetryExpiry s
          = .next ((s.setChannel 14 (started (s.channel 14))).setStep
              { s.step with
                state := .retracting, jamRetry := .used, retryTimer := none, jamRun := 0
                travelTimer := some (s.motionParams.stepTravelMax * 100) }))
      ∧ (s.awning.retryTimer.isSome → s.awning.state = .retracting → s.awning.stallRetry = .pending →
        (s.channel 15).state = .stopped → s.awning.target = some .home →
        exec .awningStallRetryExpiry s
          = .next ((s.setChannel 15 (started (s.channel 15))).setAwning
              { s.awning with
                stallRetry := .used, retryTimer := none, lastDrive := .inward
                stallTimer := some (s.motionParams.stallInterval * 100)
                travelTimer := some (s.motionParams.awningTravelTimeout * 1000) })))

/-- R167, R168, R171: a reading at the designated WIND record brings the wind run count up to date, and sets or reloads the hold where it calls for it, with the
forced retract of an awning that is not RETRACTED outside SETUP; at its expiry the wind hold becomes clear with a WIND_CLEAR notice, which in
TRAVEL changes no verdict and so nothing else; and where the designated WIND record goes stale the run count becomes 0, the verdict is BLOCKED, the
hold stays as it was, and the forced retract is armed likewise. -/
def Obligations.WindHoldExpiryClearsTheHold : Prop :=
  (∀ s : State, s.wind.holdTimer.isSome →
    (∃ t, exec .windHoldExpiry s = .next t ∧ t.wind = { s.wind with holdTimer := none } ∧ t.windHold = false
      ∧ sameElsewhere s t ∧ sameClients s t ∧ t.meas = s.meas ∧ t.sched = s.sched ∧ t.modeCtl = s.modeCtl
      ∧ t.switches = s.switches)
    ∧ (s.owed = false → s.mode = .travel →
      exec .windHoldExpiry s
        = .next ((s.setWind { s.wind with holdTimer := none }).postAll
            { kind := .motion, subject := 111, value := 9 * 256 + s.awning.state.code })))
  ∧ (∀ (s : State) (k : Fin 24) (v : Int),
    let q := s.motionParams
    let t := s.receive k v
    let reaches : Prop := (q.windLimit : Int) ≤ v
    let run := if (q.windLimit : Int) ≤ v then min 10 (s.wind.runCount + 1) else 0
    let calls : Prop := (q.gustLimit : Int) ≤ v ∨ q.windCount ≤ run
    let reload : Timer := some (q.windHoldTime * 60000)
    (¬ (q.wind = some k ∧ (s.measRec k).desc.kind = .wind) → t.wind = s.wind)
    ∧ (q.wind = some k → (s.measRec k).desc.kind = .wind →
      (calls → t.wind = { runCount := run, holdTimer := reload })
      ∧ (¬ calls → reaches → s.wind.holdTimer.isSome → t.wind = { runCount := run, holdTimer := reload })
      ∧ (¬ calls → ¬ (reaches ∧ s.wind.holdTimer.isSome) → t.wind = { s.wind with runCount := run })
      ∧ (calls → s.awning.state ≠ .retracted → s.mode ≠ .setup →
        forcedIn t 3 15)
      ∧ (calls → s.wind.holdTimer = none → s.mode = .setup →
        s.windReading v
          = (s.setWind { runCount := run, holdTimer := reload }).postAll
              { kind := .motion, subject := 111, value := 8 * 256 + s.awning.state.code })))
  ∧ (∀ s : State, ∃ t, exec .pollPeriodStart s = .next t ∧
    let lapsed (k : Fin 24) : Prop := (s.measRec k).freshness = .fresh ∧ (t.measRec k).freshness = .stale
    let windLapsed : Prop := ∃ k, s.motionParams.wind = some k ∧ (s.measRec k).desc.kind = .wind ∧ lapsed k
    (windLapsed →
      t.wind = { s.wind with runCount := 0 } ∧ t.awningBlocked = true
      ∧ ((∀ j, lapsed j → s.motionParams.wind = some j) → s.awning.state ≠ .retracted → s.mode ≠ .setup →
        forcedIn t 3 15))
    ∧ (¬ windLapsed → t.wind = s.wind ∧ keptAsItWas s t 3))

/-! ### Chapter 10 -/

/-- R16, R17, R19, R173 to R179: a judgement judges the heater by its causes, takes the first row of its table that applies, by its condition and with its effect,
and then the rows from the new state until none applies, and then posts one FROST notice where the state differs from the former; from WATCH and HEATING a tank at or below dump − 10 leads to DUMPING, or on to
DRAINED where the fresh tank is dry; at the drain timer's expiry DUMPING becomes DRAINED with the cause kept; and a taken commit of the frost
parameters puts them in force, turns the controller OFF or from OFF to DRAINED by its enable, and re-arms the entries of the state that it
keeps on their new channels; a commit of them is NOT_PERMITTED from any role but PANEL, WRONG_MODE outside SETUP, BAD_FIELD where a field is
out of range, and ACCEPTED with its fields otherwise. -/
def Obligations.FrostDumpsAndDrains : Prop :=
  (∀ (s : State) (former : FrostState) (lost : Bool),
      let t := s.judgeFrost former lost
      t.frostRow lost = none
      ∧ (t.frost.state = former → t.ports = s.ports)
      ∧ (t.frost.state ≠ former →
        t.ports
          = (s.postAll { kind := .frost, subject := 119, value := former.code * 256 + t.frost.state.code }).ports))
  ∧ (∀ s : State,
      (s.heaterCauses.unavailable = true ↔
        s.frostParams.starvationLimit ≤ (s.entry 0).starvation ∨ s.account.tier = .protect
          ∨ (∃ c, s.frostParams.heater = some c ∧ (s.channel c).state = .lockedOut) ∨ s.frostParams.heater = none)
      ∧ ∀ former lost, ∃ t,
        FrostRowsTaken lost (s.setFrost { s.frost with heater := s.heaterCauses }) t ∧ s.judgeFrost former lost = t.noticeFrost former)
  ∧ (∀ (s : State) (lost : Bool),
      let q := s.frostParams
      let low (limit : Int) : Prop :=
        ∃ k, q.tank = some k ∧ (s.measRec k).desc.kind = .temperature ∧ (s.measRec k).freshness = .fresh
          ∧ (s.measRec k).value ≤ limit
      let high (limit : Int) : Prop :=
        ∃ k, q.tank = some k ∧ (s.measRec k).desc.kind = .temperature ∧ (s.measRec k).freshness = .fresh
          ∧ limit < (s.measRec k).value
      let unknown : Prop := ∀ k, q.tank = some k → (s.measRec k).desc.kind = .temperature → (s.measRec k).freshness ≠ .fresh
      let cold : Prop :=
        ∀ l, q.outside = some l → (s.measRec l).desc.kind = .temperature → (s.measRec l).freshness ≠ .never →
          (s.measRec l).value ≤ q.watchTemp
      let warm : Prop :=
        ∃ l, q.outside = some l ∧ (s.measRec l).desc.kind = .temperature ∧ (s.measRec l).freshness ≠ .never
          ∧ q.watchTemp + 10 < (s.measRec l).value
      let dry : Prop :=
        ∃ k, q.fresh = some k ∧ (s.measRec k).desc.kind = .level ∧ (s.measRec k).freshness = .fresh
          ∧ (s.measRec k).filtered ≤ q.dryLevel
      let guarded : Prop := s.frost.state = .watch ∨ s.frost.state = .heating
      let dumps (cause : DumpCause) : Prop :=
        ∃ t, s.frostRow lost = some t
          ∧ t.frost =
            { s.frost with state := .dumping, cause := cause, drainTimer := some (q.drainTime * 60000) }
          ∧ (t.entry 0).state = .free ∧ (t.entry 1).state = .free
          ∧ (∀ i, 2 ≤ i.1 → t.entry i = s.entry i) ∧ t.frostParams = q ∧ t.meas = s.meas ∧ sameElsewhere s t
      let moves (st : FrostState) : Prop := s.frostRow lost = some (s.setFrost { s.frost with state := st })
      let heats : Prop :=
        (q.heater = none → moves .heating)
        ∧ ∀ c, q.heater = some c →
          ∃ t, s.frostRow lost = some t ∧ t.frost = { s.frost with state := .heating }
            ∧ (t.entry 0).fields = heatFields q c ∧ (t.entry 0).state ≠ .free ∧ (t.entry 0).state ≠ .held
            ∧ (t.entry 0).state ≠ .done ∧ (∀ i, i ≠ 0 → t.entry i = s.entry i) ∧ t.frostParams = q ∧ t.meas = s.meas
            ∧ (s.holdsRun 0 = false → t.channels = s.channels) ∧ sameElsewhere s t
      let cools : Prop :=
        ∃ t, s.frostRow lost = some t ∧ t.frost = { s.frost with state := .watch } ∧ (t.entry 0).state = .free
          ∧ (∀ i, i ≠ 0 → t.entry i = s.entry i) ∧ t.frostParams = q ∧ t.meas = s.meas ∧ sameElsewhere s t
      firstRow (s.frostRow lost = none)
        [ (guarded ∧ low (q.dumpTemp - 10), dumps .lastResort)
        , (guarded ∧ low q.dumpTemp ∧ s.frost.heater.unavailable = true, dumps .noHeater)
        , (guarded ∧ unknown ∧ cold, dumps .noProbe)
        , (valveHeld s ∧ lost = true, dumps .valveLost)
        , (s.frost.state = .idle ∧ (cold ∨ low q.holdTemp), moves .watch)
        , (s.frost.state = .watch ∧ low q.holdTemp, heats)
        , (s.frost.state = .watch ∧ warm ∧ high (q.holdTemp + 10), moves .idle)
        , (s.frost.state = .heating ∧ warm ∧ high (q.holdTemp + 10), cools)
        , (s.frost.state = .dumping ∧ dry,
            s.frostRow lost = some (s.setFrost { s.frost with state := .drained, drainTimer := none })) ])
  ∧ (∀ (s : State) (k : Fin 24), s.frost.state = .watch ∨ s.frost.state = .heating →
      s.frostParams.tank = some k → (s.measRec k).desc.kind = .temperature → (s.measRec k).freshness = .fresh →
      (s.measRec k).value ≤ s.frostParams.dumpTemp - 10 →
      let t := s.frostJudgement
      t.frost.cause = .lastResort ∧ (t.entry 0).state = .free ∧ (t.entry 1).state = .free
      ∧ (s.freshDry = false → t.frost.state = .dumping ∧ t.frost.drainTimer = some (s.frostParams.drainTime * 60000))
      ∧ (s.freshDry = true → t.frost.state = .drained ∧ t.frost.drainTimer = none))
  ∧ (∀ s : State, s.frost.state = .dumping → s.frost.drainTimer.isSome →
      ∃ t, exec .drainTimerExpiry s = .next t
        ∧ t.frost = { s.frost with state := .drained, drainTimer := none, heater := s.heaterCauses }
        ∧ (∀ i, (t.entry i).fields = (s.entry i).fields ∧ (t.entry i).owner = (s.entry i).owner)
        ∧ sameElsewhere s t ∧ t.meas = s.meas ∧ t.sched = s.sched ∧ t.modeCtl = s.modeCtl ∧ t.switches = s.switches)
  ∧ (∀ (s : State) (p : PortId) (q : FrostParams),
      let t := s.obey p (.frostParams q)
      t.frostParams = q
      ∧ (q.enable = false →
        t.frost.state = .off ∧ t.frost.cause = .none ∧ t.frost.drainTimer = none ∧ (t.entry 0).state = .free
        ∧ (t.entry 1).state = .free)
      ∧ (q.enable = true → s.frost.state = .off → t.frost.state = .drained ∧ t.frost.cause = .none)
      ∧ (q.enable = true → s.frost.state = .drained → t.frost.state = .drained ∧ t.frost.cause = s.frost.cause)
      ∧ (q.enable = true → s.frost.state = .heating → t.frost.state = .heating → ∀ c, q.heater = some c →
        (t.entry 0).fields =
          { channel := c, demand := .setpoint q.holdTemp, cls := 0, persistence := .standing, holdTime := 0
            slotFirst := q.slotFirst, slotSpan := q.slotSpan, repetition := 1, base := 0, arm := .armed })
      ∧ (q.enable = true → s.frost.state = .idle ∨ s.frost.state = .watch ∨ s.frost.state = .heating →
        t.frost.state = .idle ∨ t.frost.state = .watch ∨ t.frost.state = .heating →
        (∀ c, q.valve = some c →
          (t.entry 1).fields =
            { channel := c, demand := .level 100, cls := 0, persistence := .standing, holdTime := 0, slotFirst := 0
              slotSpan := 1, repetition := 1, base := 0, arm := .armed })
        ∧ (q.valve = none → (t.entry 1).state = .free))
      ∧ t.engine = s.engine ∧ t.line = s.line ∧ t.account = s.account ∧ t.motionParams = s.motionParams ∧ t.meas = s.meas
      ∧ t.sched = s.sched ∧ t.modeCtl = s.modeCtl ∧ t.wind = s.wind ∧ t.switches = s.switches ∧ sameClients s t)
  ∧ (∀ (s : State) (p : PortId) (img : Vector Byte 32),
      let b (k : Nat) : Nat := imageByte img k
      let w (k : Nat) : Nat := b k * 256 + b (k + 1)
      let z (k : Nat) : Int := if b k < 128 then (w k : Int) else (w k : Int) - 65536
      let bad : Prop :=
        1 < b 0 ∨ (∃ k ∈ [1, 2, 3, 4], namesNoRecord (b k)) ∨ (∃ k ∈ [5, 6, 7], b k ≠ 255 ∧ 13 < b k)
          ∨ (∃ k ∈ [5, 6, 7], ∃ l ∈ [5, 6, 7], k ≠ l ∧ b k = b l ∧ b k ≠ 255)
          ∨ (∃ k ∈ [8, 10, 12, 14], z k < -400 ∨ 850 < z k) ∨ z 10 ≤ z 12 ∨ z 14 ≤ z 10
          ∨ b 16 = 0 ∨ 32 < b 16 ∨ b 17 = 0 ∨ 60 < b 17 ∨ 15 < b 18 ∨ b 19 = 0 ∨ 16 < b 18 + b 19
          ∨ 1000 < w 20 ∨ 1000 < w 22
      judgedInOrder s p 120 img ((s.port p).role ≠ .panel) (s.mode ≠ .setup) bad
        (∃ tank outside fresh grey valve heater pump,
          namesRecord tank (b 1) ∧ namesRecord outside (b 2) ∧ namesRecord fresh (b 3) ∧ namesRecord grey (b 4)
          ∧ namesChannel valve (b 5) ∧ namesChannel heater (b 6) ∧ namesChannel pump (b 7)
          ∧ s.judge p 120 img
            = .taken .accepted
                (.frostParams
                  { enable := b 0 = 1, tank := tank, outside := outside, fresh := fresh, grey := grey, valve := valve
                    heater := heater, pump := pump, watchTemp := z 8, holdTemp := z 10, dumpTemp := z 12, closeTemp := z 14
                    starvationLimit := b 16, drainTime := b 17, slotFirst := b 18, slotSpan := b 19, dryLevel := w 20
                    greyFull := w 22 })))

/-- R16, R19, R174, R176, R179, R180: in DUMPING and DRAINED a valve-close request is refused with TOO_COLD while the tank is unknown or below the close temperature,
or the dump valve channel is LOCKED_OUT, and taken otherwise: the cause is then NONE, the drain timer stopped, entry 1 armed on the valve
channel, and the state IDLE, or WATCH where the outside is cold, with one FROST notice; in the other states it is taken and changes
nothing but the requested action; it is NOT_PERMITTED from any role but PANEL, and any other action is BAD_FIELD. That the requested action is written there, where R180 says that the request changes nothing, is the model's choice (log
entry 16). -/
def Obligations.ValveCloseNeedsAWarmTank : Prop :=
  (∀ (s : State) (p : PortId) (img : Vector Byte 32), (s.port p).role = .panel → imageByte img 0 = 1 →
    let warm := ∃ k, s.frostParams.tank = some k ∧ (s.measRec k).desc.kind = .temperature
      ∧ (s.measRec k).freshness = .fresh ∧ s.frostParams.closeTemp ≤ (s.measRec k).value
    let locked := ∃ c, s.frostParams.valve = some c ∧ (s.channel c).state = .lockedOut
    (s.frost.state = .dumping ∨ s.frost.state = .drained →
      (warm ∧ ¬ locked → s.judge p 119 img = .taken .accepted .valveClose)
      ∧ (¬ (warm ∧ ¬ locked) → s.judge p 119 img = .refused .tooCold))
    ∧ (s.frost.state ≠ .dumping → s.frost.state ≠ .drained →
      s.judge p 119 img = .taken .accepted .valveClose
        ∧ s.obey p .valveClose = s.setFrost { s.frost with requested := true }))
  ∧ (∀ (s : State) (p : PortId) (k : Fin 24),
    let q := s.frostParams
    s.frost.state = .dumping ∨ s.frost.state = .drained → q.dumpTemp < q.holdTemp → q.holdTemp < q.closeTemp →
    q.tank = some k → (s.measRec k).desc.kind = .temperature → (s.measRec k).freshness = .fresh →
    q.closeTemp ≤ (s.measRec k).value →
    let cold : Prop :=
      ∀ l, q.outside = some l → (s.measRec l).desc.kind = .temperature → (s.measRec l).freshness ≠ .never →
        (s.measRec l).value ≤ q.watchTemp
    let t := s.obey p .valveClose
    (cold → t.frost.state = .watch) ∧ (¬ cold → t.frost.state = .idle)
    ∧ t.frost =
        { requested := true, state := t.frost.state, cause := .none, heater := s.heaterCauses, drainTimer := none }
    ∧ (∀ c, q.valve = some c →
      (t.entry 1).fields = holdFields c ∧ (t.entry 1).state ≠ .free ∧ (t.entry 1).state ≠ .held)
    ∧ tells s t .frost (fun _ =>
        [{ kind := .frost, subject := 119, value := s.frost.state.code * 256 + t.frost.state.code }])
    ∧ sameElsewhere s t ∧ sameClients s t ∧ t.meas = s.meas ∧ t.sched = s.sched ∧ t.modeCtl = s.modeCtl ∧ t.wind = s.wind
    ∧ t.switches = s.switches)
  ∧ (∀ (s : State) (p : PortId) (img : Vector Byte 32),
    ((s.port p).role ≠ .panel → s.judge p 119 img = .refused .notPermitted)
    ∧ ((s.port p).role = .panel → imageByte img 0 ≠ 1 → s.judge p 119 img = .refused .badField))

/-! ### Laws that every command and every step keeps -/

/-- The laws hold after every power-on reset. -/
def Obligations.PowerOnResetMeetsTheLaws : Prop :=
  ∀ (straps : Straps) (sw : Switches) (s : State), ∃ t, exec (.powerOnReset straps sw) s = .next t
    ∧ portsLaw t ∧ disabledLaw t ∧ awningLaw t ∧ kindsLaw t ∧ heavyLaw t ∧ entriesLaw t ∧ setupLaw t ∧ frostLaw t
    ∧ chargeLaw t ∧ tierLaw t ∧ budgetLaw t ∧ senderLaw t ∧ queueLaw t ∧ countersLaw t ∧ internalLaw t ∧ outwardLaw t
    ∧ extendLaw t ∧ waterKeeping t ∧ waterLaw t

/-- 1.2.3, R2, R22: the notice count stays within 0..8 and the judgement count within 0..7, and a DISABLED port stays as power-on reset left it. -/
def Obligations.PortLawsAreKept : Prop :=
  (∀ s t : State, portsLaw s → Sys2Proof.Machine.step s = .next t → portsLaw t)
  ∧ (∀ s t : State, disabledLaw s → Sys2Proof.Machine.step s = .next t → disabledLaw t)

/-- R163: the awning position count stays within 0..Pmax. -/
def Obligations.AwningCountStaysInRange : Prop :=
  ∀ s t : State, awningLaw s → Sys2Proof.Machine.step s = .next t → awningLaw t

/-- R137: at most one HEAVY channel is energised, that of the entry holding the present run. -/
def Obligations.OneHeavyChannelRuns : Prop :=
  ∀ s t : State, kindsLaw s → heavyLaw s → Sys2Proof.Machine.step s = .next t → kindsLaw t ∧ heavyLaw t

/-- R41, R97, R177 to R179: entries 0 to 3 have no owner and a client entry has one exactly while it is not FREE; in SETUP entries 2 to 47 are FREE; entries
0 and 1 are armed, and the drain timer runs, in their frost states alone. -/
def Obligations.EntryLawsAreKept : Prop :=
  (∀ s t : State, entriesLaw s → Sys2Proof.Machine.step s = .next t → entriesLaw t)
  ∧ (∀ s t : State, entriesLaw s → setupLaw s → Sys2Proof.Machine.step s = .next t → setupLaw t)
  ∧ (∀ s t : State, entriesLaw s → frostLaw s → Sys2Proof.Machine.step s = .next t → frostLaw t)

/-- R98, R156, R158, R168, R169: the awning does not head outward in TRAVEL, under an active wind hold or with the wind UNKNOWN; the step does not in TRAVEL
or with the ignition ON, and in TRAVEL it is not EXTENDED. The internal entries carry the fields that they are armed with, and a machine
heads outward only for a demand that asks it to. -/
def Obligations.ExtendingStaysBarred : Prop :=
  (∀ s t : State, entriesLaw s → frostLaw s → internalLaw s → Sys2Proof.Machine.step s = .next t → internalLaw t)
  ∧ (∀ s t : State, kindsLaw s → outwardLaw s → Sys2Proof.Machine.step s = .next t → outwardLaw t)
  ∧ (∀ s t : State, kindsLaw s → entriesLaw s → frostLaw s → internalLaw s → outwardLaw s → extendLaw s →
      Sys2Proof.Machine.step s = .next t → extendLaw t)

/-- R116, R122, R179, R181: the dump valve channel is off but in IDLE, WATCH and HEATING, and the pump channel is off in DUMPING and DRAINED, at a filtered fresh
level at or below dry and at a filtered grey level at or above full. How a run on a HEAVY valve channel ends, and its verdict is withdrawn, when
its entry was recommitted at LEVEL 0 is the model's choice (log entry 41). While a chain of re-evaluations is cut the law waits for its end (log
entry 5). -/
def Obligations.WaterChannelsStayOff : Prop :=
  ∀ s t : State, kindsLaw s → heavyLaw s → entriesLaw s → frostLaw s → internalLaw s → waterKeeping s →
    Sys2Proof.Machine.step s = .next t → waterKeeping t ∧ (waterLaw s → waterLaw t)

/-- R83, R90: the charge content, the residue and the state of charge stay within their ranges; the tier is not NORMAL while the account is unsynced, and
PROTECT at the protect count. -/
def Obligations.AccountLawsAreKept : Prop :=
  (∀ s t : State, chargeLaw s → Sys2Proof.Machine.step s = .next t → chargeLaw t)
  ∧ (∀ s t : State, tierLaw s → Sys2Proof.Machine.step s = .next t → tierLaw t)

/-- R110, R120, R121: the heavy headroom is B minus the exempt sum and the steady total; the needs of the entries GRANTED on steady channels are within these
two, which fit in B with the present run beside them; and where the exempt sum exceeds B no entry that is not exempt is GRANTED on a steady
channel and there is no run. While a chain of re-evaluations is cut (log entry 5) the two clauses on the needs of the GRANTED entries wait for
its end. -/
def Obligations.GrantsStayWithinTheBudget : Prop :=
  ∀ s t : State, budgetLaw s → Sys2Proof.Machine.step s = .next t → budgetLaw t

/-- R47, R53, R54, R72, R73, R125: every sender's health follows its failure count, the put position of the reading queue is its get position advanced by its
fill count, and the counters stay within their ranges. -/
def Obligations.LineQueueAndCountersStayInRange : Prop :=
  (∀ s t : State, senderLaw s → Sys2Proof.Machine.step s = .next t → senderLaw t)
  ∧ (∀ s t : State, queueLaw s → Sys2Proof.Machine.step s = .next t → queueLaw t)
  ∧ (∀ s t : State, countersLaw s → Sys2Proof.Machine.step s = .next t → countersLaw t)
end

