-- ==== Sys2Proof/Laws/State.lean ====
section
/-! SUPPORT. One lemma for each field of the state and each update of it, so that no proof unfolds a record update. -/

namespace Sys2Proof.Machine

open Sys2Proof

variable (s : State)

/-! ### `State.setPort` -/

@[simp] theorem State.setPort_ports (p : PortId) (x : Port) : (s.setPort p x).ports = s.ports.set p x := rfl
@[simp] theorem State.setPort_engine (p : PortId) (x : Port) : (s.setPort p x).engine = s.engine := rfl
@[simp] theorem State.setPort_modeCtl (p : PortId) (x : Port) : (s.setPort p x).modeCtl = s.modeCtl := rfl
@[simp] theorem State.setPort_line (p : PortId) (x : Port) : (s.setPort p x).line = s.line := rfl
@[simp] theorem State.setPort_polls (p : PortId) (x : Port) : (s.setPort p x).polls = s.polls := rfl
@[simp] theorem State.setPort_meas (p : PortId) (x : Port) : (s.setPort p x).meas = s.meas := rfl
@[simp] theorem State.setPort_queue (p : PortId) (x : Port) : (s.setPort p x).queue = s.queue := rfl
@[simp] theorem State.setPort_battery (p : PortId) (x : Port) : (s.setPort p x).battery = s.battery := rfl
@[simp] theorem State.setPort_account (p : PortId) (x : Port) : (s.setPort p x).account = s.account := rfl
@[simp] theorem State.setPort_entries (p : PortId) (x : Port) : (s.setPort p x).entries = s.entries := rfl
@[simp] theorem State.setPort_budget (p : PortId) (x : Port) : (s.setPort p x).budget = s.budget := rfl
@[simp] theorem State.setPort_sched (p : PortId) (x : Port) : (s.setPort p x).sched = s.sched := rfl
@[simp] theorem State.setPort_channels (p : PortId) (x : Port) : (s.setPort p x).channels = s.channels := rfl
@[simp] theorem State.setPort_bank (p : PortId) (x : Port) : (s.setPort p x).bank = s.bank := rfl
@[simp] theorem State.setPort_motionParams (p : PortId) (x : Port) : (s.setPort p x).motionParams = s.motionParams := rfl
@[simp] theorem State.setPort_step (p : PortId) (x : Port) : (s.setPort p x).step = s.step := rfl
@[simp] theorem State.setPort_awning (p : PortId) (x : Port) : (s.setPort p x).awning = s.awning := rfl
@[simp] theorem State.setPort_wind (p : PortId) (x : Port) : (s.setPort p x).wind = s.wind := rfl
@[simp] theorem State.setPort_frostParams (p : PortId) (x : Port) : (s.setPort p x).frostParams = s.frostParams := rfl
@[simp] theorem State.setPort_frost (p : PortId) (x : Port) : (s.setPort p x).frost = s.frost := rfl
@[simp] theorem State.setPort_switches (p : PortId) (x : Port) : (s.setPort p x).switches = s.switches := rfl
@[simp] theorem State.setPort_owed (p : PortId) (x : Port) : (s.setPort p x).owed = s.owed := rfl
@[simp] theorem State.setPort_pending (p : PortId) (x : Port) : (s.setPort p x).pending = s.pending := rfl

/-! ### `State.setEngine` -/

@[simp] theorem State.setEngine_ports (x : Engine) : (s.setEngine x).ports = s.ports := rfl
@[simp] theorem State.setEngine_engine (x : Engine) : (s.setEngine x).engine = x := rfl
@[simp] theorem State.setEngine_modeCtl (x : Engine) : (s.setEngine x).modeCtl = s.modeCtl := rfl
@[simp] theorem State.setEngine_line (x : Engine) : (s.setEngine x).line = s.line := rfl
@[simp] theorem State.setEngine_polls (x : Engine) : (s.setEngine x).polls = s.polls := rfl
@[simp] theorem State.setEngine_meas (x : Engine) : (s.setEngine x).meas = s.meas := rfl
@[simp] theorem State.setEngine_queue (x : Engine) : (s.setEngine x).queue = s.queue := rfl
@[simp] theorem State.setEngine_battery (x : Engine) : (s.setEngine x).battery = s.battery := rfl
@[simp] theorem State.setEngine_account (x : Engine) : (s.setEngine x).account = s.account := rfl
@[simp] theorem State.setEngine_entries (x : Engine) : (s.setEngine x).entries = s.entries := rfl
@[simp] theorem State.setEngine_budget (x : Engine) : (s.setEngine x).budget = s.budget := rfl
@[simp] theorem State.setEngine_sched (x : Engine) : (s.setEngine x).sched = s.sched := rfl
@[simp] theorem State.setEngine_channels (x : Engine) : (s.setEngine x).channels = s.channels := rfl
@[simp] theorem State.setEngine_bank (x : Engine) : (s.setEngine x).bank = s.bank := rfl
@[simp] theorem State.setEngine_motionParams (x : Engine) : (s.setEngine x).motionParams = s.motionParams := rfl
@[simp] theorem State.setEngine_step (x : Engine) : (s.setEngine x).step = s.step := rfl
@[simp] theorem State.setEngine_awning (x : Engine) : (s.setEngine x).awning = s.awning := rfl
@[simp] theorem State.setEngine_wind (x : Engine) : (s.setEngine x).wind = s.wind := rfl
@[simp] theorem State.setEngine_frostParams (x : Engine) : (s.setEngine x).frostParams = s.frostParams := rfl
@[simp] theorem State.setEngine_frost (x : Engine) : (s.setEngine x).frost = s.frost := rfl
@[simp] theorem State.setEngine_switches (x : Engine) : (s.setEngine x).switches = s.switches := rfl
@[simp] theorem State.setEngine_owed (x : Engine) : (s.setEngine x).owed = s.owed := rfl
@[simp] theorem State.setEngine_pending (x : Engine) : (s.setEngine x).pending = s.pending := rfl

/-! ### `State.setModeCtl` -/

@[simp] theorem State.setModeCtl_ports (x : ModeControl) : (s.setModeCtl x).ports = s.ports := rfl
@[simp] theorem State.setModeCtl_engine (x : ModeControl) : (s.setModeCtl x).engine = s.engine := rfl
@[simp] theorem State.setModeCtl_modeCtl (x : ModeControl) : (s.setModeCtl x).modeCtl = x := rfl
@[simp] theorem State.setModeCtl_line (x : ModeControl) : (s.setModeCtl x).line = s.line := rfl
@[simp] theorem State.setModeCtl_polls (x : ModeControl) : (s.setModeCtl x).polls = s.polls := rfl
@[simp] theorem State.setModeCtl_meas (x : ModeControl) : (s.setModeCtl x).meas = s.meas := rfl
@[simp] theorem State.setModeCtl_queue (x : ModeControl) : (s.setModeCtl x).queue = s.queue := rfl
@[simp] theorem State.setModeCtl_battery (x : ModeControl) : (s.setModeCtl x).battery = s.battery := rfl
@[simp] theorem State.setModeCtl_account (x : ModeControl) : (s.setModeCtl x).account = s.account := rfl
@[simp] theorem State.setModeCtl_entries (x : ModeControl) : (s.setModeCtl x).entries = s.entries := rfl
@[simp] theorem State.setModeCtl_budget (x : ModeControl) : (s.setModeCtl x).budget = s.budget := rfl
@[simp] theorem State.setModeCtl_sched (x : ModeControl) : (s.setModeCtl x).sched = s.sched := rfl
@[simp] theorem State.setModeCtl_channels (x : ModeControl) : (s.setModeCtl x).channels = s.channels := rfl
@[simp] theorem State.setModeCtl_bank (x : ModeControl) : (s.setModeCtl x).bank = s.bank := rfl
@[simp] theorem State.setModeCtl_motionParams (x : ModeControl) : (s.setModeCtl x).motionParams = s.motionParams := rfl
@[simp] theorem State.setModeCtl_step (x : ModeControl) : (s.setModeCtl x).step = s.step := rfl
@[simp] theorem State.setModeCtl_awning (x : ModeControl) : (s.setModeCtl x).awning = s.awning := rfl
@[simp] theorem State.setModeCtl_wind (x : ModeControl) : (s.setModeCtl x).wind = s.wind := rfl
@[simp] theorem State.setModeCtl_frostParams (x : ModeControl) : (s.setModeCtl x).frostParams = s.frostParams := rfl
@[simp] theorem State.setModeCtl_frost (x : ModeControl) : (s.setModeCtl x).frost = s.frost := rfl
@[simp] theorem State.setModeCtl_switches (x : ModeControl) : (s.setModeCtl x).switches = s.switches := rfl
@[simp] theorem State.setModeCtl_owed (x : ModeControl) : (s.setModeCtl x).owed = s.owed := rfl
@[simp] theorem State.setModeCtl_pending (x : ModeControl) : (s.setModeCtl x).pending = s.pending := rfl

/-! ### `State.setLine` -/

@[simp] theorem State.setLine_ports (x : LineControl) : (s.setLine x).ports = s.ports := rfl
@[simp] theorem State.setLine_engine (x : LineControl) : (s.setLine x).engine = s.engine := rfl
@[simp] theorem State.setLine_modeCtl (x : LineControl) : (s.setLine x).modeCtl = s.modeCtl := rfl
@[simp] theorem State.setLine_line (x : LineControl) : (s.setLine x).line = x := rfl
@[simp] theorem State.setLine_polls (x : LineControl) : (s.setLine x).polls = s.polls := rfl
@[simp] theorem State.setLine_meas (x : LineControl) : (s.setLine x).meas = s.meas := rfl
@[simp] theorem State.setLine_queue (x : LineControl) : (s.setLine x).queue = s.queue := rfl
@[simp] theorem State.setLine_battery (x : LineControl) : (s.setLine x).battery = s.battery := rfl
@[simp] theorem State.setLine_account (x : LineControl) : (s.setLine x).account = s.account := rfl
@[simp] theorem State.setLine_entries (x : LineControl) : (s.setLine x).entries = s.entries := rfl
@[simp] theorem State.setLine_budget (x : LineControl) : (s.setLine x).budget = s.budget := rfl
@[simp] theorem State.setLine_sched (x : LineControl) : (s.setLine x).sched = s.sched := rfl
@[simp] theorem State.setLine_channels (x : LineControl) : (s.setLine x).channels = s.channels := rfl
@[simp] theorem State.setLine_bank (x : LineControl) : (s.setLine x).bank = s.bank := rfl
@[simp] theorem State.setLine_motionParams (x : LineControl) : (s.setLine x).motionParams = s.motionParams := rfl
@[simp] theorem State.setLine_step (x : LineControl) : (s.setLine x).step = s.step := rfl
@[simp] theorem State.setLine_awning (x : LineControl) : (s.setLine x).awning = s.awning := rfl
@[simp] theorem State.setLine_wind (x : LineControl) : (s.setLine x).wind = s.wind := rfl
@[simp] theorem State.setLine_frostParams (x : LineControl) : (s.setLine x).frostParams = s.frostParams := rfl
@[simp] theorem State.setLine_frost (x : LineControl) : (s.setLine x).frost = s.frost := rfl
@[simp] theorem State.setLine_switches (x : LineControl) : (s.setLine x).switches = s.switches := rfl
@[simp] theorem State.setLine_owed (x : LineControl) : (s.setLine x).owed = s.owed := rfl
@[simp] theorem State.setLine_pending (x : LineControl) : (s.setLine x).pending = s.pending := rfl

/-! ### `State.setPoll` -/

@[simp] theorem State.setPoll_ports (j : Fin 32) (e : PollEntry) : (s.setPoll j e).ports = s.ports := rfl
@[simp] theorem State.setPoll_engine (j : Fin 32) (e : PollEntry) : (s.setPoll j e).engine = s.engine := rfl
@[simp] theorem State.setPoll_modeCtl (j : Fin 32) (e : PollEntry) : (s.setPoll j e).modeCtl = s.modeCtl := rfl
@[simp] theorem State.setPoll_line (j : Fin 32) (e : PollEntry) : (s.setPoll j e).line = s.line := rfl
@[simp] theorem State.setPoll_polls (j : Fin 32) (e : PollEntry) : (s.setPoll j e).polls = vset s.polls j e := rfl
@[simp] theorem State.setPoll_meas (j : Fin 32) (e : PollEntry) : (s.setPoll j e).meas = s.meas := rfl
@[simp] theorem State.setPoll_queue (j : Fin 32) (e : PollEntry) : (s.setPoll j e).queue = s.queue := rfl
@[simp] theorem State.setPoll_battery (j : Fin 32) (e : PollEntry) : (s.setPoll j e).battery = s.battery := rfl
@[simp] theorem State.setPoll_account (j : Fin 32) (e : PollEntry) : (s.setPoll j e).account = s.account := rfl
@[simp] theorem State.setPoll_entries (j : Fin 32) (e : PollEntry) : (s.setPoll j e).entries = s.entries := rfl
@[simp] theorem State.setPoll_budget (j : Fin 32) (e : PollEntry) : (s.setPoll j e).budget = s.budget := rfl
@[simp] theorem State.setPoll_sched (j : Fin 32) (e : PollEntry) : (s.setPoll j e).sched = s.sched := rfl
@[simp] theorem State.setPoll_channels (j : Fin 32) (e : PollEntry) : (s.setPoll j e).channels = s.channels := rfl
@[simp] theorem State.setPoll_bank (j : Fin 32) (e : PollEntry) : (s.setPoll j e).bank = s.bank := rfl
@[simp] theorem State.setPoll_motionParams (j : Fin 32) (e : PollEntry) : (s.setPoll j e).motionParams = s.motionParams := rfl
@[simp] theorem State.setPoll_step (j : Fin 32) (e : PollEntry) : (s.setPoll j e).step = s.step := rfl
@[simp] theorem State.setPoll_awning (j : Fin 32) (e : PollEntry) : (s.setPoll j e).awning = s.awning := rfl
@[simp] theorem State.setPoll_wind (j : Fin 32) (e : PollEntry) : (s.setPoll j e).wind = s.wind := rfl
@[simp] theorem State.setPoll_frostParams (j : Fin 32) (e : PollEntry) : (s.setPoll j e).frostParams = s.frostParams := rfl
@[simp] theorem State.setPoll_frost (j : Fin 32) (e : PollEntry) : (s.setPoll j e).frost = s.frost := rfl
@[simp] theorem State.setPoll_switches (j : Fin 32) (e : PollEntry) : (s.setPoll j e).switches = s.switches := rfl
@[simp] theorem State.setPoll_owed (j : Fin 32) (e : PollEntry) : (s.setPoll j e).owed = s.owed := rfl
@[simp] theorem State.setPoll_pending (j : Fin 32) (e : PollEntry) : (s.setPoll j e).pending = s.pending := rfl

/-! ### `State.setMeas` -/

@[simp] theorem State.setMeas_ports (k : Fin 24) (m : MeasRecord) : (s.setMeas k m).ports = s.ports := rfl
@[simp] theorem State.setMeas_engine (k : Fin 24) (m : MeasRecord) : (s.setMeas k m).engine = s.engine := rfl
@[simp] theorem State.setMeas_modeCtl (k : Fin 24) (m : MeasRecord) : (s.setMeas k m).modeCtl = s.modeCtl := rfl
@[simp] theorem State.setMeas_line (k : Fin 24) (m : MeasRecord) : (s.setMeas k m).line = s.line := rfl
@[simp] theorem State.setMeas_polls (k : Fin 24) (m : MeasRecord) : (s.setMeas k m).polls = s.polls := rfl
@[simp] theorem State.setMeas_meas (k : Fin 24) (m : MeasRecord) : (s.setMeas k m).meas = vset s.meas k m := rfl
@[simp] theorem State.setMeas_queue (k : Fin 24) (m : MeasRecord) : (s.setMeas k m).queue = s.queue := rfl
@[simp] theorem State.setMeas_battery (k : Fin 24) (m : MeasRecord) : (s.setMeas k m).battery = s.battery := rfl
@[simp] theorem State.setMeas_account (k : Fin 24) (m : MeasRecord) : (s.setMeas k m).account = s.account := rfl
@[simp] theorem State.setMeas_entries (k : Fin 24) (m : MeasRecord) : (s.setMeas k m).entries = s.entries := rfl
@[simp] theorem State.setMeas_budget (k : Fin 24) (m : MeasRecord) : (s.setMeas k m).budget = s.budget := rfl
@[simp] theorem State.setMeas_sched (k : Fin 24) (m : MeasRecord) : (s.setMeas k m).sched = s.sched := rfl
@[simp] theorem State.setMeas_channels (k : Fin 24) (m : MeasRecord) : (s.setMeas k m).channels = s.channels := rfl
@[simp] theorem State.setMeas_bank (k : Fin 24) (m : MeasRecord) : (s.setMeas k m).bank = s.bank := rfl
@[simp] theorem State.setMeas_motionParams (k : Fin 24) (m : MeasRecord) : (s.setMeas k m).motionParams = s.motionParams := rfl
@[simp] theorem State.setMeas_step (k : Fin 24) (m : MeasRecord) : (s.setMeas k m).step = s.step := rfl
@[simp] theorem State.setMeas_awning (k : Fin 24) (m : MeasRecord) : (s.setMeas k m).awning = s.awning := rfl
@[simp] theorem State.setMeas_wind (k : Fin 24) (m : MeasRecord) : (s.setMeas k m).wind = s.wind := rfl
@[simp] theorem State.setMeas_frostParams (k : Fin 24) (m : MeasRecord) : (s.setMeas k m).frostParams = s.frostParams := rfl
@[simp] theorem State.setMeas_frost (k : Fin 24) (m : MeasRecord) : (s.setMeas k m).frost = s.frost := rfl
@[simp] theorem State.setMeas_switches (k : Fin 24) (m : MeasRecord) : (s.setMeas k m).switches = s.switches := rfl
@[simp] theorem State.setMeas_owed (k : Fin 24) (m : MeasRecord) : (s.setMeas k m).owed = s.owed := rfl
@[simp] theorem State.setMeas_pending (k : Fin 24) (m : MeasRecord) : (s.setMeas k m).pending = s.pending := rfl

/-! ### `State.setAccount` -/

@[simp] theorem State.setAccount_ports (x : Account) : (s.setAccount x).ports = s.ports := rfl
@[simp] theorem State.setAccount_engine (x : Account) : (s.setAccount x).engine = s.engine := rfl
@[simp] theorem State.setAccount_modeCtl (x : Account) : (s.setAccount x).modeCtl = s.modeCtl := rfl
@[simp] theorem State.setAccount_line (x : Account) : (s.setAccount x).line = s.line := rfl
@[simp] theorem State.setAccount_polls (x : Account) : (s.setAccount x).polls = s.polls := rfl
@[simp] theorem State.setAccount_meas (x : Account) : (s.setAccount x).meas = s.meas := rfl
@[simp] theorem State.setAccount_queue (x : Account) : (s.setAccount x).queue = s.queue := rfl
@[simp] theorem State.setAccount_battery (x : Account) : (s.setAccount x).battery = s.battery := rfl
@[simp] theorem State.setAccount_account (x : Account) : (s.setAccount x).account = x := rfl
@[simp] theorem State.setAccount_entries (x : Account) : (s.setAccount x).entries = s.entries := rfl
@[simp] theorem State.setAccount_budget (x : Account) : (s.setAccount x).budget = s.budget := rfl
@[simp] theorem State.setAccount_sched (x : Account) : (s.setAccount x).sched = s.sched := rfl
@[simp] theorem State.setAccount_channels (x : Account) : (s.setAccount x).channels = s.channels := rfl
@[simp] theorem State.setAccount_bank (x : Account) : (s.setAccount x).bank = s.bank := rfl
@[simp] theorem State.setAccount_motionParams (x : Account) : (s.setAccount x).motionParams = s.motionParams := rfl
@[simp] theorem State.setAccount_step (x : Account) : (s.setAccount x).step = s.step := rfl
@[simp] theorem State.setAccount_awning (x : Account) : (s.setAccount x).awning = s.awning := rfl
@[simp] theorem State.setAccount_wind (x : Account) : (s.setAccount x).wind = s.wind := rfl
@[simp] theorem State.setAccount_frostParams (x : Account) : (s.setAccount x).frostParams = s.frostParams := rfl
@[simp] theorem State.setAccount_frost (x : Account) : (s.setAccount x).frost = s.frost := rfl
@[simp] theorem State.setAccount_switches (x : Account) : (s.setAccount x).switches = s.switches := rfl
@[simp] theorem State.setAccount_owed (x : Account) : (s.setAccount x).owed = s.owed := rfl
@[simp] theorem State.setAccount_pending (x : Account) : (s.setAccount x).pending = s.pending := rfl

/-! ### `State.setEntry` -/

@[simp] theorem State.setEntry_ports (i : Fin 48) (e : Entry) : (s.setEntry i e).ports = s.ports := rfl
@[simp] theorem State.setEntry_engine (i : Fin 48) (e : Entry) : (s.setEntry i e).engine = s.engine := rfl
@[simp] theorem State.setEntry_modeCtl (i : Fin 48) (e : Entry) : (s.setEntry i e).modeCtl = s.modeCtl := rfl
@[simp] theorem State.setEntry_line (i : Fin 48) (e : Entry) : (s.setEntry i e).line = s.line := rfl
@[simp] theorem State.setEntry_polls (i : Fin 48) (e : Entry) : (s.setEntry i e).polls = s.polls := rfl
@[simp] theorem State.setEntry_meas (i : Fin 48) (e : Entry) : (s.setEntry i e).meas = s.meas := rfl
@[simp] theorem State.setEntry_queue (i : Fin 48) (e : Entry) : (s.setEntry i e).queue = s.queue := rfl
@[simp] theorem State.setEntry_battery (i : Fin 48) (e : Entry) : (s.setEntry i e).battery = s.battery := rfl
@[simp] theorem State.setEntry_account (i : Fin 48) (e : Entry) : (s.setEntry i e).account = s.account := rfl
@[simp] theorem State.setEntry_entries (i : Fin 48) (e : Entry) : (s.setEntry i e).entries = vset s.entries i e := rfl
@[simp] theorem State.setEntry_budget (i : Fin 48) (e : Entry) : (s.setEntry i e).budget = s.budget := rfl
@[simp] theorem State.setEntry_sched (i : Fin 48) (e : Entry) : (s.setEntry i e).sched = s.sched := rfl
@[simp] theorem State.setEntry_channels (i : Fin 48) (e : Entry) : (s.setEntry i e).channels = s.channels := rfl
@[simp] theorem State.setEntry_bank (i : Fin 48) (e : Entry) : (s.setEntry i e).bank = s.bank := rfl
@[simp] theorem State.setEntry_motionParams (i : Fin 48) (e : Entry) : (s.setEntry i e).motionParams = s.motionParams := rfl
@[simp] theorem State.setEntry_step (i : Fin 48) (e : Entry) : (s.setEntry i e).step = s.step := rfl
@[simp] theorem State.setEntry_awning (i : Fin 48) (e : Entry) : (s.setEntry i e).awning = s.awning := rfl
@[simp] theorem State.setEntry_wind (i : Fin 48) (e : Entry) : (s.setEntry i e).wind = s.wind := rfl
@[simp] theorem State.setEntry_frostParams (i : Fin 48) (e : Entry) : (s.setEntry i e).frostParams = s.frostParams := rfl
@[simp] theorem State.setEntry_frost (i : Fin 48) (e : Entry) : (s.setEntry i e).frost = s.frost := rfl
@[simp] theorem State.setEntry_switches (i : Fin 48) (e : Entry) : (s.setEntry i e).switches = s.switches := rfl
@[simp] theorem State.setEntry_owed (i : Fin 48) (e : Entry) : (s.setEntry i e).owed = s.owed := rfl
@[simp] theorem State.setEntry_pending (i : Fin 48) (e : Entry) : (s.setEntry i e).pending = s.pending := rfl

/-! ### `State.setBudget` -/

@[simp] theorem State.setBudget_ports (x : Budget) : (s.setBudget x).ports = s.ports := rfl
@[simp] theorem State.setBudget_engine (x : Budget) : (s.setBudget x).engine = s.engine := rfl
@[simp] theorem State.setBudget_modeCtl (x : Budget) : (s.setBudget x).modeCtl = s.modeCtl := rfl
@[simp] theorem State.setBudget_line (x : Budget) : (s.setBudget x).line = s.line := rfl
@[simp] theorem State.setBudget_polls (x : Budget) : (s.setBudget x).polls = s.polls := rfl
@[simp] theorem State.setBudget_meas (x : Budget) : (s.setBudget x).meas = s.meas := rfl
@[simp] theorem State.setBudget_queue (x : Budget) : (s.setBudget x).queue = s.queue := rfl
@[simp] theorem State.setBudget_battery (x : Budget) : (s.setBudget x).battery = s.battery := rfl
@[simp] theorem State.setBudget_account (x : Budget) : (s.setBudget x).account = s.account := rfl
@[simp] theorem State.setBudget_entries (x : Budget) : (s.setBudget x).entries = s.entries := rfl
@[simp] theorem State.setBudget_budget (x : Budget) : (s.setBudget x).budget = x := rfl
@[simp] theorem State.setBudget_sched (x : Budget) : (s.setBudget x).sched = s.sched := rfl
@[simp] theorem State.setBudget_channels (x : Budget) : (s.setBudget x).channels = s.channels := rfl
@[simp] theorem State.setBudget_bank (x : Budget) : (s.setBudget x).bank = s.bank := rfl
@[simp] theorem State.setBudget_motionParams (x : Budget) : (s.setBudget x).motionParams = s.motionParams := rfl
@[simp] theorem State.setBudget_step (x : Budget) : (s.setBudget x).step = s.step := rfl
@[simp] theorem State.setBudget_awning (x : Budget) : (s.setBudget x).awning = s.awning := rfl
@[simp] theorem State.setBudget_wind (x : Budget) : (s.setBudget x).wind = s.wind := rfl
@[simp] theorem State.setBudget_frostParams (x : Budget) : (s.setBudget x).frostParams = s.frostParams := rfl
@[simp] theorem State.setBudget_frost (x : Budget) : (s.setBudget x).frost = s.frost := rfl
@[simp] theorem State.setBudget_switches (x : Budget) : (s.setBudget x).switches = s.switches := rfl
@[simp] theorem State.setBudget_owed (x : Budget) : (s.setBudget x).owed = s.owed := rfl
@[simp] theorem State.setBudget_pending (x : Budget) : (s.setBudget x).pending = s.pending := rfl

/-! ### `State.setRow` -/

@[simp] theorem State.setRow_ports (c : Fin 16) (r : ChannelRow) : (s.setRow c r).ports = s.ports := rfl
@[simp] theorem State.setRow_engine (c : Fin 16) (r : ChannelRow) : (s.setRow c r).engine = s.engine := rfl
@[simp] theorem State.setRow_modeCtl (c : Fin 16) (r : ChannelRow) : (s.setRow c r).modeCtl = s.modeCtl := rfl
@[simp] theorem State.setRow_line (c : Fin 16) (r : ChannelRow) : (s.setRow c r).line = s.line := rfl
@[simp] theorem State.setRow_polls (c : Fin 16) (r : ChannelRow) : (s.setRow c r).polls = s.polls := rfl
@[simp] theorem State.setRow_meas (c : Fin 16) (r : ChannelRow) : (s.setRow c r).meas = s.meas := rfl
@[simp] theorem State.setRow_queue (c : Fin 16) (r : ChannelRow) : (s.setRow c r).queue = s.queue := rfl
@[simp] theorem State.setRow_battery (c : Fin 16) (r : ChannelRow) : (s.setRow c r).battery = s.battery := rfl
@[simp] theorem State.setRow_account (c : Fin 16) (r : ChannelRow) : (s.setRow c r).account = s.account := rfl
@[simp] theorem State.setRow_entries (c : Fin 16) (r : ChannelRow) : (s.setRow c r).entries = s.entries := rfl
@[simp] theorem State.setRow_budget (c : Fin 16) (r : ChannelRow) : (s.setRow c r).budget = { s.budget with rows := vset s.budget.rows c r } := rfl
@[simp] theorem State.setRow_sched (c : Fin 16) (r : ChannelRow) : (s.setRow c r).sched = s.sched := rfl
@[simp] theorem State.setRow_channels (c : Fin 16) (r : ChannelRow) : (s.setRow c r).channels = s.channels := rfl
@[simp] theorem State.setRow_bank (c : Fin 16) (r : ChannelRow) : (s.setRow c r).bank = s.bank := rfl
@[simp] theorem State.setRow_motionParams (c : Fin 16) (r : ChannelRow) : (s.setRow c r).motionParams = s.motionParams := rfl
@[simp] theorem State.setRow_step (c : Fin 16) (r : ChannelRow) : (s.setRow c r).step = s.step := rfl
@[simp] theorem State.setRow_awning (c : Fin 16) (r : ChannelRow) : (s.setRow c r).awning = s.awning := rfl
@[simp] theorem State.setRow_wind (c : Fin 16) (r : ChannelRow) : (s.setRow c r).wind = s.wind := rfl
@[simp] theorem State.setRow_frostParams (c : Fin 16) (r : ChannelRow) : (s.setRow c r).frostParams = s.frostParams := rfl
@[simp] theorem State.setRow_frost (c : Fin 16) (r : ChannelRow) : (s.setRow c r).frost = s.frost := rfl
@[simp] theorem State.setRow_switches (c : Fin 16) (r : ChannelRow) : (s.setRow c r).switches = s.switches := rfl
@[simp] theorem State.setRow_owed (c : Fin 16) (r : ChannelRow) : (s.setRow c r).owed = s.owed := rfl
@[simp] theorem State.setRow_pending (c : Fin 16) (r : ChannelRow) : (s.setRow c r).pending = s.pending := rfl

/-! ### `State.setSched` -/

@[simp] theorem State.setSched_ports (x : Scheduler) : (s.setSched x).ports = s.ports := rfl
@[simp] theorem State.setSched_engine (x : Scheduler) : (s.setSched x).engine = s.engine := rfl
@[simp] theorem State.setSched_modeCtl (x : Scheduler) : (s.setSched x).modeCtl = s.modeCtl := rfl
@[simp] theorem State.setSched_line (x : Scheduler) : (s.setSched x).line = s.line := rfl
@[simp] theorem State.setSched_polls (x : Scheduler) : (s.setSched x).polls = s.polls := rfl
@[simp] theorem State.setSched_meas (x : Scheduler) : (s.setSched x).meas = s.meas := rfl
@[simp] theorem State.setSched_queue (x : Scheduler) : (s.setSched x).queue = s.queue := rfl
@[simp] theorem State.setSched_battery (x : Scheduler) : (s.setSched x).battery = s.battery := rfl
@[simp] theorem State.setSched_account (x : Scheduler) : (s.setSched x).account = s.account := rfl
@[simp] theorem State.setSched_entries (x : Scheduler) : (s.setSched x).entries = s.entries := rfl
@[simp] theorem State.setSched_budget (x : Scheduler) : (s.setSched x).budget = s.budget := rfl
@[simp] theorem State.setSched_sched (x : Scheduler) : (s.setSched x).sched = x := rfl
@[simp] theorem State.setSched_channels (x : Scheduler) : (s.setSched x).channels = s.channels := rfl
@[simp] theorem State.setSched_bank (x : Scheduler) : (s.setSched x).bank = s.bank := rfl
@[simp] theorem State.setSched_motionParams (x : Scheduler) : (s.setSched x).motionParams = s.motionParams := rfl
@[simp] theorem State.setSched_step (x : Scheduler) : (s.setSched x).step = s.step := rfl
@[simp] theorem State.setSched_awning (x : Scheduler) : (s.setSched x).awning = s.awning := rfl
@[simp] theorem State.setSched_wind (x : Scheduler) : (s.setSched x).wind = s.wind := rfl
@[simp] theorem State.setSched_frostParams (x : Scheduler) : (s.setSched x).frostParams = s.frostParams := rfl
@[simp] theorem State.setSched_frost (x : Scheduler) : (s.setSched x).frost = s.frost := rfl
@[simp] theorem State.setSched_switches (x : Scheduler) : (s.setSched x).switches = s.switches := rfl
@[simp] theorem State.setSched_owed (x : Scheduler) : (s.setSched x).owed = s.owed := rfl
@[simp] theorem State.setSched_pending (x : Scheduler) : (s.setSched x).pending = s.pending := rfl

/-! ### `State.setChannel` -/

@[simp] theorem State.setChannel_ports (c : Fin 16) (x : Channel) : (s.setChannel c x).ports = s.ports := rfl
@[simp] theorem State.setChannel_engine (c : Fin 16) (x : Channel) : (s.setChannel c x).engine = s.engine := rfl
@[simp] theorem State.setChannel_modeCtl (c : Fin 16) (x : Channel) : (s.setChannel c x).modeCtl = s.modeCtl := rfl
@[simp] theorem State.setChannel_line (c : Fin 16) (x : Channel) : (s.setChannel c x).line = s.line := rfl
@[simp] theorem State.setChannel_polls (c : Fin 16) (x : Channel) : (s.setChannel c x).polls = s.polls := rfl
@[simp] theorem State.setChannel_meas (c : Fin 16) (x : Channel) : (s.setChannel c x).meas = s.meas := rfl
@[simp] theorem State.setChannel_queue (c : Fin 16) (x : Channel) : (s.setChannel c x).queue = s.queue := rfl
@[simp] theorem State.setChannel_battery (c : Fin 16) (x : Channel) : (s.setChannel c x).battery = s.battery := rfl
@[simp] theorem State.setChannel_account (c : Fin 16) (x : Channel) : (s.setChannel c x).account = s.account := rfl
@[simp] theorem State.setChannel_entries (c : Fin 16) (x : Channel) : (s.setChannel c x).entries = s.entries := rfl
@[simp] theorem State.setChannel_budget (c : Fin 16) (x : Channel) : (s.setChannel c x).budget = s.budget := rfl
@[simp] theorem State.setChannel_sched (c : Fin 16) (x : Channel) : (s.setChannel c x).sched = s.sched := rfl
@[simp] theorem State.setChannel_channels (c : Fin 16) (x : Channel) : (s.setChannel c x).channels = vset s.channels c x := rfl
@[simp] theorem State.setChannel_bank (c : Fin 16) (x : Channel) : (s.setChannel c x).bank = s.bank := rfl
@[simp] theorem State.setChannel_motionParams (c : Fin 16) (x : Channel) : (s.setChannel c x).motionParams = s.motionParams := rfl
@[simp] theorem State.setChannel_step (c : Fin 16) (x : Channel) : (s.setChannel c x).step = s.step := rfl
@[simp] theorem State.setChannel_awning (c : Fin 16) (x : Channel) : (s.setChannel c x).awning = s.awning := rfl
@[simp] theorem State.setChannel_wind (c : Fin 16) (x : Channel) : (s.setChannel c x).wind = s.wind := rfl
@[simp] theorem State.setChannel_frostParams (c : Fin 16) (x : Channel) : (s.setChannel c x).frostParams = s.frostParams := rfl
@[simp] theorem State.setChannel_frost (c : Fin 16) (x : Channel) : (s.setChannel c x).frost = s.frost := rfl
@[simp] theorem State.setChannel_switches (c : Fin 16) (x : Channel) : (s.setChannel c x).switches = s.switches := rfl
@[simp] theorem State.setChannel_owed (c : Fin 16) (x : Channel) : (s.setChannel c x).owed = s.owed := rfl
@[simp] theorem State.setChannel_pending (c : Fin 16) (x : Channel) : (s.setChannel c x).pending = s.pending := rfl

/-! ### `State.mapChannels` -/

@[simp] theorem State.mapChannels_ports (f : Channel → Channel) : (s.mapChannels f).ports = s.ports := rfl
@[simp] theorem State.mapChannels_engine (f : Channel → Channel) : (s.mapChannels f).engine = s.engine := rfl
@[simp] theorem State.mapChannels_modeCtl (f : Channel → Channel) : (s.mapChannels f).modeCtl = s.modeCtl := rfl
@[simp] theorem State.mapChannels_line (f : Channel → Channel) : (s.mapChannels f).line = s.line := rfl
@[simp] theorem State.mapChannels_polls (f : Channel → Channel) : (s.mapChannels f).polls = s.polls := rfl
@[simp] theorem State.mapChannels_meas (f : Channel → Channel) : (s.mapChannels f).meas = s.meas := rfl
@[simp] theorem State.mapChannels_queue (f : Channel → Channel) : (s.mapChannels f).queue = s.queue := rfl
@[simp] theorem State.mapChannels_battery (f : Channel → Channel) : (s.mapChannels f).battery = s.battery := rfl
@[simp] theorem State.mapChannels_account (f : Channel → Channel) : (s.mapChannels f).account = s.account := rfl
@[simp] theorem State.mapChannels_entries (f : Channel → Channel) : (s.mapChannels f).entries = s.entries := rfl
@[simp] theorem State.mapChannels_budget (f : Channel → Channel) : (s.mapChannels f).budget = s.budget := rfl
@[simp] theorem State.mapChannels_sched (f : Channel → Channel) : (s.mapChannels f).sched = s.sched := rfl
@[simp] theorem State.mapChannels_channels (f : Channel → Channel) : (s.mapChannels f).channels = s.channels.map f := rfl
@[simp] theorem State.mapChannels_bank (f : Channel → Channel) : (s.mapChannels f).bank = s.bank := rfl
@[simp] theorem State.mapChannels_motionParams (f : Channel → Channel) : (s.mapChannels f).motionParams = s.motionParams := rfl
@[simp] theorem State.mapChannels_step (f : Channel → Channel) : (s.mapChannels f).step = s.step := rfl
@[simp] theorem State.mapChannels_awning (f : Channel → Channel) : (s.mapChannels f).awning = s.awning := rfl
@[simp] theorem State.mapChannels_wind (f : Channel → Channel) : (s.mapChannels f).wind = s.wind := rfl
@[simp] theorem State.mapChannels_frostParams (f : Channel → Channel) : (s.mapChannels f).frostParams = s.frostParams := rfl
@[simp] theorem State.mapChannels_frost (f : Channel → Channel) : (s.mapChannels f).frost = s.frost := rfl
@[simp] theorem State.mapChannels_switches (f : Channel → Channel) : (s.mapChannels f).switches = s.switches := rfl
@[simp] theorem State.mapChannels_owed (f : Channel → Channel) : (s.mapChannels f).owed = s.owed := rfl
@[simp] theorem State.mapChannels_pending (f : Channel → Channel) : (s.mapChannels f).pending = s.pending := rfl

/-! ### `State.setStep` -/

@[simp] theorem State.setStep_ports (x : StepControl) : (s.setStep x).ports = s.ports := rfl
@[simp] theorem State.setStep_engine (x : StepControl) : (s.setStep x).engine = s.engine := rfl
@[simp] theorem State.setStep_modeCtl (x : StepControl) : (s.setStep x).modeCtl = s.modeCtl := rfl
@[simp] theorem State.setStep_line (x : StepControl) : (s.setStep x).line = s.line := rfl
@[simp] theorem State.setStep_polls (x : StepControl) : (s.setStep x).polls = s.polls := rfl
@[simp] theorem State.setStep_meas (x : StepControl) : (s.setStep x).meas = s.meas := rfl
@[simp] theorem State.setStep_queue (x : StepControl) : (s.setStep x).queue = s.queue := rfl
@[simp] theorem State.setStep_battery (x : StepControl) : (s.setStep x).battery = s.battery := rfl
@[simp] theorem State.setStep_account (x : StepControl) : (s.setStep x).account = s.account := rfl
@[simp] theorem State.setStep_entries (x : StepControl) : (s.setStep x).entries = s.entries := rfl
@[simp] theorem State.setStep_budget (x : StepControl) : (s.setStep x).budget = s.budget := rfl
@[simp] theorem State.setStep_sched (x : StepControl) : (s.setStep x).sched = s.sched := rfl
@[simp] theorem State.setStep_channels (x : StepControl) : (s.setStep x).channels = s.channels := rfl
@[simp] theorem State.setStep_bank (x : StepControl) : (s.setStep x).bank = s.bank := rfl
@[simp] theorem State.setStep_motionParams (x : StepControl) : (s.setStep x).motionParams = s.motionParams := rfl
@[simp] theorem State.setStep_step (x : StepControl) : (s.setStep x).step = x := rfl
@[simp] theorem State.setStep_awning (x : StepControl) : (s.setStep x).awning = s.awning := rfl
@[simp] theorem State.setStep_wind (x : StepControl) : (s.setStep x).wind = s.wind := rfl
@[simp] theorem State.setStep_frostParams (x : StepControl) : (s.setStep x).frostParams = s.frostParams := rfl
@[simp] theorem State.setStep_frost (x : StepControl) : (s.setStep x).frost = s.frost := rfl
@[simp] theorem State.setStep_switches (x : StepControl) : (s.setStep x).switches = s.switches := rfl
@[simp] theorem State.setStep_owed (x : StepControl) : (s.setStep x).owed = s.owed := rfl
@[simp] theorem State.setStep_pending (x : StepControl) : (s.setStep x).pending = s.pending := rfl

/-! ### `State.setAwning` -/

@[simp] theorem State.setAwning_ports (x : AwningControl) : (s.setAwning x).ports = s.ports := rfl
@[simp] theorem State.setAwning_engine (x : AwningControl) : (s.setAwning x).engine = s.engine := rfl
@[simp] theorem State.setAwning_modeCtl (x : AwningControl) : (s.setAwning x).modeCtl = s.modeCtl := rfl
@[simp] theorem State.setAwning_line (x : AwningControl) : (s.setAwning x).line = s.line := rfl
@[simp] theorem State.setAwning_polls (x : AwningControl) : (s.setAwning x).polls = s.polls := rfl
@[simp] theorem State.setAwning_meas (x : AwningControl) : (s.setAwning x).meas = s.meas := rfl
@[simp] theorem State.setAwning_queue (x : AwningControl) : (s.setAwning x).queue = s.queue := rfl
@[simp] theorem State.setAwning_battery (x : AwningControl) : (s.setAwning x).battery = s.battery := rfl
@[simp] theorem State.setAwning_account (x : AwningControl) : (s.setAwning x).account = s.account := rfl
@[simp] theorem State.setAwning_entries (x : AwningControl) : (s.setAwning x).entries = s.entries := rfl
@[simp] theorem State.setAwning_budget (x : AwningControl) : (s.setAwning x).budget = s.budget := rfl
@[simp] theorem State.setAwning_sched (x : AwningControl) : (s.setAwning x).sched = s.sched := rfl
@[simp] theorem State.setAwning_channels (x : AwningControl) : (s.setAwning x).channels = s.channels := rfl
@[simp] theorem State.setAwning_bank (x : AwningControl) : (s.setAwning x).bank = s.bank := rfl
@[simp] theorem State.setAwning_motionParams (x : AwningControl) : (s.setAwning x).motionParams = s.motionParams := rfl
@[simp] theorem State.setAwning_step (x : AwningControl) : (s.setAwning x).step = s.step := rfl
@[simp] theorem State.setAwning_awning (x : AwningControl) : (s.setAwning x).awning = x := rfl
@[simp] theorem State.setAwning_wind (x : AwningControl) : (s.setAwning x).wind = s.wind := rfl
@[simp] theorem State.setAwning_frostParams (x : AwningControl) : (s.setAwning x).frostParams = s.frostParams := rfl
@[simp] theorem State.setAwning_frost (x : AwningControl) : (s.setAwning x).frost = s.frost := rfl
@[simp] theorem State.setAwning_switches (x : AwningControl) : (s.setAwning x).switches = s.switches := rfl
@[simp] theorem State.setAwning_owed (x : AwningControl) : (s.setAwning x).owed = s.owed := rfl
@[simp] theorem State.setAwning_pending (x : AwningControl) : (s.setAwning x).pending = s.pending := rfl

/-! ### `State.setWind` -/

@[simp] theorem State.setWind_ports (x : WindControl) : (s.setWind x).ports = s.ports := rfl
@[simp] theorem State.setWind_engine (x : WindControl) : (s.setWind x).engine = s.engine := rfl
@[simp] theorem State.setWind_modeCtl (x : WindControl) : (s.setWind x).modeCtl = s.modeCtl := rfl
@[simp] theorem State.setWind_line (x : WindControl) : (s.setWind x).line = s.line := rfl
@[simp] theorem State.setWind_polls (x : WindControl) : (s.setWind x).polls = s.polls := rfl
@[simp] theorem State.setWind_meas (x : WindControl) : (s.setWind x).meas = s.meas := rfl
@[simp] theorem State.setWind_queue (x : WindControl) : (s.setWind x).queue = s.queue := rfl
@[simp] theorem State.setWind_battery (x : WindControl) : (s.setWind x).battery = s.battery := rfl
@[simp] theorem State.setWind_account (x : WindControl) : (s.setWind x).account = s.account := rfl
@[simp] theorem State.setWind_entries (x : WindControl) : (s.setWind x).entries = s.entries := rfl
@[simp] theorem State.setWind_budget (x : WindControl) : (s.setWind x).budget = s.budget := rfl
@[simp] theorem State.setWind_sched (x : WindControl) : (s.setWind x).sched = s.sched := rfl
@[simp] theorem State.setWind_channels (x : WindControl) : (s.setWind x).channels = s.channels := rfl
@[simp] theorem State.setWind_bank (x : WindControl) : (s.setWind x).bank = s.bank := rfl
@[simp] theorem State.setWind_motionParams (x : WindControl) : (s.setWind x).motionParams = s.motionParams := rfl
@[simp] theorem State.setWind_step (x : WindControl) : (s.setWind x).step = s.step := rfl
@[simp] theorem State.setWind_awning (x : WindControl) : (s.setWind x).awning = s.awning := rfl
@[simp] theorem State.setWind_wind (x : WindControl) : (s.setWind x).wind = x := rfl
@[simp] theorem State.setWind_frostParams (x : WindControl) : (s.setWind x).frostParams = s.frostParams := rfl
@[simp] theorem State.setWind_frost (x : WindControl) : (s.setWind x).frost = s.frost := rfl
@[simp] theorem State.setWind_switches (x : WindControl) : (s.setWind x).switches = s.switches := rfl
@[simp] theorem State.setWind_owed (x : WindControl) : (s.setWind x).owed = s.owed := rfl
@[simp] theorem State.setWind_pending (x : WindControl) : (s.setWind x).pending = s.pending := rfl

/-! ### `State.setFrost` -/

@[simp] theorem State.setFrost_ports (x : FrostControl) : (s.setFrost x).ports = s.ports := rfl
@[simp] theorem State.setFrost_engine (x : FrostControl) : (s.setFrost x).engine = s.engine := rfl
@[simp] theorem State.setFrost_modeCtl (x : FrostControl) : (s.setFrost x).modeCtl = s.modeCtl := rfl
@[simp] theorem State.setFrost_line (x : FrostControl) : (s.setFrost x).line = s.line := rfl
@[simp] theorem State.setFrost_polls (x : FrostControl) : (s.setFrost x).polls = s.polls := rfl
@[simp] theorem State.setFrost_meas (x : FrostControl) : (s.setFrost x).meas = s.meas := rfl
@[simp] theorem State.setFrost_queue (x : FrostControl) : (s.setFrost x).queue = s.queue := rfl
@[simp] theorem State.setFrost_battery (x : FrostControl) : (s.setFrost x).battery = s.battery := rfl
@[simp] theorem State.setFrost_account (x : FrostControl) : (s.setFrost x).account = s.account := rfl
@[simp] theorem State.setFrost_entries (x : FrostControl) : (s.setFrost x).entries = s.entries := rfl
@[simp] theorem State.setFrost_budget (x : FrostControl) : (s.setFrost x).budget = s.budget := rfl
@[simp] theorem State.setFrost_sched (x : FrostControl) : (s.setFrost x).sched = s.sched := rfl
@[simp] theorem State.setFrost_channels (x : FrostControl) : (s.setFrost x).channels = s.channels := rfl
@[simp] theorem State.setFrost_bank (x : FrostControl) : (s.setFrost x).bank = s.bank := rfl
@[simp] theorem State.setFrost_motionParams (x : FrostControl) : (s.setFrost x).motionParams = s.motionParams := rfl
@[simp] theorem State.setFrost_step (x : FrostControl) : (s.setFrost x).step = s.step := rfl
@[simp] theorem State.setFrost_awning (x : FrostControl) : (s.setFrost x).awning = s.awning := rfl
@[simp] theorem State.setFrost_wind (x : FrostControl) : (s.setFrost x).wind = s.wind := rfl
@[simp] theorem State.setFrost_frostParams (x : FrostControl) : (s.setFrost x).frostParams = s.frostParams := rfl
@[simp] theorem State.setFrost_frost (x : FrostControl) : (s.setFrost x).frost = x := rfl
@[simp] theorem State.setFrost_switches (x : FrostControl) : (s.setFrost x).switches = s.switches := rfl
@[simp] theorem State.setFrost_owed (x : FrostControl) : (s.setFrost x).owed = s.owed := rfl
@[simp] theorem State.setFrost_pending (x : FrostControl) : (s.setFrost x).pending = s.pending := rfl

/-! ### `State.setSwitches` -/

@[simp] theorem State.setSwitches_ports (x : Switches) : (s.setSwitches x).ports = s.ports := rfl
@[simp] theorem State.setSwitches_engine (x : Switches) : (s.setSwitches x).engine = s.engine := rfl
@[simp] theorem State.setSwitches_modeCtl (x : Switches) : (s.setSwitches x).modeCtl = s.modeCtl := rfl
@[simp] theorem State.setSwitches_line (x : Switches) : (s.setSwitches x).line = s.line := rfl
@[simp] theorem State.setSwitches_polls (x : Switches) : (s.setSwitches x).polls = s.polls := rfl
@[simp] theorem State.setSwitches_meas (x : Switches) : (s.setSwitches x).meas = s.meas := rfl
@[simp] theorem State.setSwitches_queue (x : Switches) : (s.setSwitches x).queue = s.queue := rfl
@[simp] theorem State.setSwitches_battery (x : Switches) : (s.setSwitches x).battery = s.battery := rfl
@[simp] theorem State.setSwitches_account (x : Switches) : (s.setSwitches x).account = s.account := rfl
@[simp] theorem State.setSwitches_entries (x : Switches) : (s.setSwitches x).entries = s.entries := rfl
@[simp] theorem State.setSwitches_budget (x : Switches) : (s.setSwitches x).budget = s.budget := rfl
@[simp] theorem State.setSwitches_sched (x : Switches) : (s.setSwitches x).sched = s.sched := rfl
@[simp] theorem State.setSwitches_channels (x : Switches) : (s.setSwitches x).channels = s.channels := rfl
@[simp] theorem State.setSwitches_bank (x : Switches) : (s.setSwitches x).bank = s.bank := rfl
@[simp] theorem State.setSwitches_motionParams (x : Switches) : (s.setSwitches x).motionParams = s.motionParams := rfl
@[simp] theorem State.setSwitches_step (x : Switches) : (s.setSwitches x).step = s.step := rfl
@[simp] theorem State.setSwitches_awning (x : Switches) : (s.setSwitches x).awning = s.awning := rfl
@[simp] theorem State.setSwitches_wind (x : Switches) : (s.setSwitches x).wind = s.wind := rfl
@[simp] theorem State.setSwitches_frostParams (x : Switches) : (s.setSwitches x).frostParams = s.frostParams := rfl
@[simp] theorem State.setSwitches_frost (x : Switches) : (s.setSwitches x).frost = s.frost := rfl
@[simp] theorem State.setSwitches_switches (x : Switches) : (s.setSwitches x).switches = x := rfl
@[simp] theorem State.setSwitches_owed (x : Switches) : (s.setSwitches x).owed = s.owed := rfl
@[simp] theorem State.setSwitches_pending (x : Switches) : (s.setSwitches x).pending = s.pending := rfl

/-! ### `State.setOwed` -/

@[simp] theorem State.setOwed_ports (b : Bool) : (s.setOwed b).ports = s.ports := rfl
@[simp] theorem State.setOwed_engine (b : Bool) : (s.setOwed b).engine = s.engine := rfl
@[simp] theorem State.setOwed_modeCtl (b : Bool) : (s.setOwed b).modeCtl = s.modeCtl := rfl
@[simp] theorem State.setOwed_line (b : Bool) : (s.setOwed b).line = s.line := rfl
@[simp] theorem State.setOwed_polls (b : Bool) : (s.setOwed b).polls = s.polls := rfl
@[simp] theorem State.setOwed_meas (b : Bool) : (s.setOwed b).meas = s.meas := rfl
@[simp] theorem State.setOwed_queue (b : Bool) : (s.setOwed b).queue = s.queue := rfl
@[simp] theorem State.setOwed_battery (b : Bool) : (s.setOwed b).battery = s.battery := rfl
@[simp] theorem State.setOwed_account (b : Bool) : (s.setOwed b).account = s.account := rfl
@[simp] theorem State.setOwed_entries (b : Bool) : (s.setOwed b).entries = s.entries := rfl
@[simp] theorem State.setOwed_budget (b : Bool) : (s.setOwed b).budget = s.budget := rfl
@[simp] theorem State.setOwed_sched (b : Bool) : (s.setOwed b).sched = s.sched := rfl
@[simp] theorem State.setOwed_channels (b : Bool) : (s.setOwed b).channels = s.channels := rfl
@[simp] theorem State.setOwed_bank (b : Bool) : (s.setOwed b).bank = s.bank := rfl
@[simp] theorem State.setOwed_motionParams (b : Bool) : (s.setOwed b).motionParams = s.motionParams := rfl
@[simp] theorem State.setOwed_step (b : Bool) : (s.setOwed b).step = s.step := rfl
@[simp] theorem State.setOwed_awning (b : Bool) : (s.setOwed b).awning = s.awning := rfl
@[simp] theorem State.setOwed_wind (b : Bool) : (s.setOwed b).wind = s.wind := rfl
@[simp] theorem State.setOwed_frostParams (b : Bool) : (s.setOwed b).frostParams = s.frostParams := rfl
@[simp] theorem State.setOwed_frost (b : Bool) : (s.setOwed b).frost = s.frost := rfl
@[simp] theorem State.setOwed_switches (b : Bool) : (s.setOwed b).switches = s.switches := rfl
@[simp] theorem State.setOwed_owed (b : Bool) : (s.setOwed b).owed = b := rfl
@[simp] theorem State.setOwed_pending (b : Bool) : (s.setOwed b).pending = s.pending := rfl

/-! ### `State.postAll` -/

@[simp] theorem State.postAll_ports (n : Notice) : (s.postAll n).ports = s.ports.map fun x => x.post n := rfl
@[simp] theorem State.postAll_engine (n : Notice) : (s.postAll n).engine = s.engine := rfl
@[simp] theorem State.postAll_modeCtl (n : Notice) : (s.postAll n).modeCtl = s.modeCtl := rfl
@[simp] theorem State.postAll_line (n : Notice) : (s.postAll n).line = s.line := rfl
@[simp] theorem State.postAll_polls (n : Notice) : (s.postAll n).polls = s.polls := rfl
@[simp] theorem State.postAll_meas (n : Notice) : (s.postAll n).meas = s.meas := rfl
@[simp] theorem State.postAll_queue (n : Notice) : (s.postAll n).queue = s.queue := rfl
@[simp] theorem State.postAll_battery (n : Notice) : (s.postAll n).battery = s.battery := rfl
@[simp] theorem State.postAll_account (n : Notice) : (s.postAll n).account = s.account := rfl
@[simp] theorem State.postAll_entries (n : Notice) : (s.postAll n).entries = s.entries := rfl
@[simp] theorem State.postAll_budget (n : Notice) : (s.postAll n).budget = s.budget := rfl
@[simp] theorem State.postAll_sched (n : Notice) : (s.postAll n).sched = s.sched := rfl
@[simp] theorem State.postAll_channels (n : Notice) : (s.postAll n).channels = s.channels := rfl
@[simp] theorem State.postAll_bank (n : Notice) : (s.postAll n).bank = s.bank := rfl
@[simp] theorem State.postAll_motionParams (n : Notice) : (s.postAll n).motionParams = s.motionParams := rfl
@[simp] theorem State.postAll_step (n : Notice) : (s.postAll n).step = s.step := rfl
@[simp] theorem State.postAll_awning (n : Notice) : (s.postAll n).awning = s.awning := rfl
@[simp] theorem State.postAll_wind (n : Notice) : (s.postAll n).wind = s.wind := rfl
@[simp] theorem State.postAll_frostParams (n : Notice) : (s.postAll n).frostParams = s.frostParams := rfl
@[simp] theorem State.postAll_frost (n : Notice) : (s.postAll n).frost = s.frost := rfl
@[simp] theorem State.postAll_switches (n : Notice) : (s.postAll n).switches = s.switches := rfl
@[simp] theorem State.postAll_owed (n : Notice) : (s.postAll n).owed = s.owed := rfl
@[simp] theorem State.postAll_pending (n : Notice) : (s.postAll n).pending = s.pending := rfl

/-! ### `State.postPanels` -/

@[simp] theorem State.postPanels_ports (n : Notice) : (s.postPanels n).ports = s.ports.map fun x => if x.role = .panel then x.post n else x := rfl
@[simp] theorem State.postPanels_engine (n : Notice) : (s.postPanels n).engine = s.engine := rfl
@[simp] theorem State.postPanels_modeCtl (n : Notice) : (s.postPanels n).modeCtl = s.modeCtl := rfl
@[simp] theorem State.postPanels_line (n : Notice) : (s.postPanels n).line = s.line := rfl
@[simp] theorem State.postPanels_polls (n : Notice) : (s.postPanels n).polls = s.polls := rfl
@[simp] theorem State.postPanels_meas (n : Notice) : (s.postPanels n).meas = s.meas := rfl
@[simp] theorem State.postPanels_queue (n : Notice) : (s.postPanels n).queue = s.queue := rfl
@[simp] theorem State.postPanels_battery (n : Notice) : (s.postPanels n).battery = s.battery := rfl
@[simp] theorem State.postPanels_account (n : Notice) : (s.postPanels n).account = s.account := rfl
@[simp] theorem State.postPanels_entries (n : Notice) : (s.postPanels n).entries = s.entries := rfl
@[simp] theorem State.postPanels_budget (n : Notice) : (s.postPanels n).budget = s.budget := rfl
@[simp] theorem State.postPanels_sched (n : Notice) : (s.postPanels n).sched = s.sched := rfl
@[simp] theorem State.postPanels_channels (n : Notice) : (s.postPanels n).channels = s.channels := rfl
@[simp] theorem State.postPanels_bank (n : Notice) : (s.postPanels n).bank = s.bank := rfl
@[simp] theorem State.postPanels_motionParams (n : Notice) : (s.postPanels n).motionParams = s.motionParams := rfl
@[simp] theorem State.postPanels_step (n : Notice) : (s.postPanels n).step = s.step := rfl
@[simp] theorem State.postPanels_awning (n : Notice) : (s.postPanels n).awning = s.awning := rfl
@[simp] theorem State.postPanels_wind (n : Notice) : (s.postPanels n).wind = s.wind := rfl
@[simp] theorem State.postPanels_frostParams (n : Notice) : (s.postPanels n).frostParams = s.frostParams := rfl
@[simp] theorem State.postPanels_frost (n : Notice) : (s.postPanels n).frost = s.frost := rfl
@[simp] theorem State.postPanels_switches (n : Notice) : (s.postPanels n).switches = s.switches := rfl
@[simp] theorem State.postPanels_owed (n : Notice) : (s.postPanels n).owed = s.owed := rfl
@[simp] theorem State.postPanels_pending (n : Notice) : (s.postPanels n).pending = s.pending := rfl

/-! ### `State.postTo` -/

@[simp] theorem State.postTo_ports (p : PortId) (n : Notice) : (s.postTo p n).ports = s.ports.set p ((s.port p).post n) := rfl
@[simp] theorem State.postTo_engine (p : PortId) (n : Notice) : (s.postTo p n).engine = s.engine := rfl
@[simp] theorem State.postTo_modeCtl (p : PortId) (n : Notice) : (s.postTo p n).modeCtl = s.modeCtl := rfl
@[simp] theorem State.postTo_line (p : PortId) (n : Notice) : (s.postTo p n).line = s.line := rfl
@[simp] theorem State.postTo_polls (p : PortId) (n : Notice) : (s.postTo p n).polls = s.polls := rfl
@[simp] theorem State.postTo_meas (p : PortId) (n : Notice) : (s.postTo p n).meas = s.meas := rfl
@[simp] theorem State.postTo_queue (p : PortId) (n : Notice) : (s.postTo p n).queue = s.queue := rfl
@[simp] theorem State.postTo_battery (p : PortId) (n : Notice) : (s.postTo p n).battery = s.battery := rfl
@[simp] theorem State.postTo_account (p : PortId) (n : Notice) : (s.postTo p n).account = s.account := rfl
@[simp] theorem State.postTo_entries (p : PortId) (n : Notice) : (s.postTo p n).entries = s.entries := rfl
@[simp] theorem State.postTo_budget (p : PortId) (n : Notice) : (s.postTo p n).budget = s.budget := rfl
@[simp] theorem State.postTo_sched (p : PortId) (n : Notice) : (s.postTo p n).sched = s.sched := rfl
@[simp] theorem State.postTo_channels (p : PortId) (n : Notice) : (s.postTo p n).channels = s.channels := rfl
@[simp] theorem State.postTo_bank (p : PortId) (n : Notice) : (s.postTo p n).bank = s.bank := rfl
@[simp] theorem State.postTo_motionParams (p : PortId) (n : Notice) : (s.postTo p n).motionParams = s.motionParams := rfl
@[simp] theorem State.postTo_step (p : PortId) (n : Notice) : (s.postTo p n).step = s.step := rfl
@[simp] theorem State.postTo_awning (p : PortId) (n : Notice) : (s.postTo p n).awning = s.awning := rfl
@[simp] theorem State.postTo_wind (p : PortId) (n : Notice) : (s.postTo p n).wind = s.wind := rfl
@[simp] theorem State.postTo_frostParams (p : PortId) (n : Notice) : (s.postTo p n).frostParams = s.frostParams := rfl
@[simp] theorem State.postTo_frost (p : PortId) (n : Notice) : (s.postTo p n).frost = s.frost := rfl
@[simp] theorem State.postTo_switches (p : PortId) (n : Notice) : (s.postTo p n).switches = s.switches := rfl
@[simp] theorem State.postTo_owed (p : PortId) (n : Notice) : (s.postTo p n).owed = s.owed := rfl
@[simp] theorem State.postTo_pending (p : PortId) (n : Notice) : (s.postTo p n).pending = s.pending := rfl

/-! ### `State.stand` -/

@[simp] theorem State.stand_ports (i : Fin 48) (st : EntryState) (r : Reason) : (s.stand i st r).ports = s.ports := rfl
@[simp] theorem State.stand_engine (i : Fin 48) (st : EntryState) (r : Reason) : (s.stand i st r).engine = s.engine := rfl
@[simp] theorem State.stand_modeCtl (i : Fin 48) (st : EntryState) (r : Reason) : (s.stand i st r).modeCtl = s.modeCtl := rfl
@[simp] theorem State.stand_line (i : Fin 48) (st : EntryState) (r : Reason) : (s.stand i st r).line = s.line := rfl
@[simp] theorem State.stand_polls (i : Fin 48) (st : EntryState) (r : Reason) : (s.stand i st r).polls = s.polls := rfl
@[simp] theorem State.stand_meas (i : Fin 48) (st : EntryState) (r : Reason) : (s.stand i st r).meas = s.meas := rfl
@[simp] theorem State.stand_queue (i : Fin 48) (st : EntryState) (r : Reason) : (s.stand i st r).queue = s.queue := rfl
@[simp] theorem State.stand_battery (i : Fin 48) (st : EntryState) (r : Reason) : (s.stand i st r).battery = s.battery := rfl
@[simp] theorem State.stand_account (i : Fin 48) (st : EntryState) (r : Reason) : (s.stand i st r).account = s.account := rfl
@[simp] theorem State.stand_entries (i : Fin 48) (st : EntryState) (r : Reason) : (s.stand i st r).entries = vset s.entries i ((s.entry i).stand st r) := rfl
@[simp] theorem State.stand_budget (i : Fin 48) (st : EntryState) (r : Reason) : (s.stand i st r).budget = s.budget := rfl
@[simp] theorem State.stand_sched (i : Fin 48) (st : EntryState) (r : Reason) : (s.stand i st r).sched = s.sched := rfl
@[simp] theorem State.stand_channels (i : Fin 48) (st : EntryState) (r : Reason) : (s.stand i st r).channels = s.channels := rfl
@[simp] theorem State.stand_bank (i : Fin 48) (st : EntryState) (r : Reason) : (s.stand i st r).bank = s.bank := rfl
@[simp] theorem State.stand_motionParams (i : Fin 48) (st : EntryState) (r : Reason) : (s.stand i st r).motionParams = s.motionParams := rfl
@[simp] theorem State.stand_step (i : Fin 48) (st : EntryState) (r : Reason) : (s.stand i st r).step = s.step := rfl
@[simp] theorem State.stand_awning (i : Fin 48) (st : EntryState) (r : Reason) : (s.stand i st r).awning = s.awning := rfl
@[simp] theorem State.stand_wind (i : Fin 48) (st : EntryState) (r : Reason) : (s.stand i st r).wind = s.wind := rfl
@[simp] theorem State.stand_frostParams (i : Fin 48) (st : EntryState) (r : Reason) : (s.stand i st r).frostParams = s.frostParams := rfl
@[simp] theorem State.stand_frost (i : Fin 48) (st : EntryState) (r : Reason) : (s.stand i st r).frost = s.frost := rfl
@[simp] theorem State.stand_switches (i : Fin 48) (st : EntryState) (r : Reason) : (s.stand i st r).switches = s.switches := rfl
@[simp] theorem State.stand_owed (i : Fin 48) (st : EntryState) (r : Reason) : (s.stand i st r).owed = s.owed := rfl
@[simp] theorem State.stand_pending (i : Fin 48) (st : EntryState) (r : Reason) : (s.stand i st r).pending = s.pending := rfl

/-! ### `State.award` -/

@[simp] theorem State.award_ports (i : Fin 48) (v : Verdict) : (s.award i v).ports = s.ports := rfl
@[simp] theorem State.award_engine (i : Fin 48) (v : Verdict) : (s.award i v).engine = s.engine := rfl
@[simp] theorem State.award_modeCtl (i : Fin 48) (v : Verdict) : (s.award i v).modeCtl = s.modeCtl := rfl
@[simp] theorem State.award_line (i : Fin 48) (v : Verdict) : (s.award i v).line = s.line := rfl
@[simp] theorem State.award_polls (i : Fin 48) (v : Verdict) : (s.award i v).polls = s.polls := rfl
@[simp] theorem State.award_meas (i : Fin 48) (v : Verdict) : (s.award i v).meas = s.meas := rfl
@[simp] theorem State.award_queue (i : Fin 48) (v : Verdict) : (s.award i v).queue = s.queue := rfl
@[simp] theorem State.award_battery (i : Fin 48) (v : Verdict) : (s.award i v).battery = s.battery := rfl
@[simp] theorem State.award_account (i : Fin 48) (v : Verdict) : (s.award i v).account = s.account := rfl
@[simp] theorem State.award_entries (i : Fin 48) (v : Verdict) : (s.award i v).entries = vset s.entries i { (s.entry i).stand v.state v.reason with grantedLevel := v.level } := rfl
@[simp] theorem State.award_budget (i : Fin 48) (v : Verdict) : (s.award i v).budget = s.budget := rfl
@[simp] theorem State.award_sched (i : Fin 48) (v : Verdict) : (s.award i v).sched = s.sched := rfl
@[simp] theorem State.award_channels (i : Fin 48) (v : Verdict) : (s.award i v).channels = s.channels := rfl
@[simp] theorem State.award_bank (i : Fin 48) (v : Verdict) : (s.award i v).bank = s.bank := rfl
@[simp] theorem State.award_motionParams (i : Fin 48) (v : Verdict) : (s.award i v).motionParams = s.motionParams := rfl
@[simp] theorem State.award_step (i : Fin 48) (v : Verdict) : (s.award i v).step = s.step := rfl
@[simp] theorem State.award_awning (i : Fin 48) (v : Verdict) : (s.award i v).awning = s.awning := rfl
@[simp] theorem State.award_wind (i : Fin 48) (v : Verdict) : (s.award i v).wind = s.wind := rfl
@[simp] theorem State.award_frostParams (i : Fin 48) (v : Verdict) : (s.award i v).frostParams = s.frostParams := rfl
@[simp] theorem State.award_frost (i : Fin 48) (v : Verdict) : (s.award i v).frost = s.frost := rfl
@[simp] theorem State.award_switches (i : Fin 48) (v : Verdict) : (s.award i v).switches = s.switches := rfl
@[simp] theorem State.award_owed (i : Fin 48) (v : Verdict) : (s.award i v).owed = s.owed := rfl
@[simp] theorem State.award_pending (i : Fin 48) (v : Verdict) : (s.award i v).pending = s.pending := rfl

end Sys2Proof.Machine
end

