-- ==== Sys2Proof/Laws/Groups.lean ====
section
/-! SUPPORT. Reading one element of a group after it, or another, was written; and what holds of the same event taken at every index. -/

namespace Sys2Proof.Machine

open Sys2Proof

/-! ### Elements of a group -/

@[simp] theorem vget_vset_same {α : Type} {n : Nat} (v : Vector α n) (i : Fin n) (x : α) : vget (vset v i x) i = x := by
  simp [vget, vset]

theorem vget_vset_ne {α : Type} {n : Nat} (v : Vector α n) {i j : Fin n} (x : α) (h : i ≠ j) :
    vget (vset v i x) j = vget v j := by
  have : i.1 ≠ j.1 := fun e => h (Fin.ext e)
  simp [vget, vset, this]

/-- Element `j` after element `i` was written. -/
theorem vget_vset {α : Type} {n : Nat} (v : Vector α n) (i j : Fin n) (x : α) :
    vget (vset v i x) j = if i = j then x else vget v j := by
  by_cases h : i = j
  · subst h; simp
  · rw [if_neg h, vget_vset_ne v x h]

theorem vset_vget {α : Type} {n : Nat} (v : Vector α n) (i : Fin n) : vset v i (vget v i) = v := by
  simp [vget, vset]

@[simp] theorem PerPort.get_set_same {α : Type} (x : PerPort α) (p : PortId) (v : α) : (x.set p v).get p = v := by
  cases p <;> rfl

theorem PerPort.get_set {α : Type} (x : PerPort α) (p q : PortId) (v : α) : (x.set p v).get q = if p = q then v else x.get q := by
  cases p <;> cases q <;> rfl

@[simp] theorem PerPort.get_map {α β : Type} (f : α → β) (x : PerPort α) (p : PortId) : (x.map f).get p = f (x.get p) := by
  cases p <;> rfl

@[simp] theorem PerPort.get_all {α : Type} (x : α) (p : PortId) : (PerPort.all x).get p = x := by cases p <;> rfl

@[simp] theorem PerPort.get_zipWith {α β γ : Type} (f : α → β → γ) (x : PerPort α) (y : PerPort β) (p : PortId) :
    (PerPort.zipWith f x y).get p = f (x.get p) (y.get p) := by
  cases p <;> rfl

/-! ### Elements of the state -/

variable (s : State)

theorem State.port_setPort (p q : PortId) (x : Port) : (s.setPort p x).port q = if p = q then x else s.port q :=
  PerPort.get_set _ _ _ _

theorem State.entry_setEntry (i j : Fin 48) (e : Entry) : (s.setEntry i e).entry j = if i = j then e else s.entry j :=
  vget_vset _ _ _ _

theorem State.channel_setChannel (c d : Fin 16) (x : Channel) : (s.setChannel c x).channel d = if c = d then x else s.channel d :=
  vget_vset _ _ _ _

theorem State.measRec_setMeas (k l : Fin 24) (m : MeasRecord) : (s.setMeas k m).measRec l = if k = l then m else s.measRec l :=
  vget_vset _ _ _ _

theorem State.poll_setPoll (i j : Fin 32) (e : PollEntry) : (s.setPoll i e).poll j = if i = j then e else s.poll j :=
  vget_vset _ _ _ _

theorem State.row_setRow (c d : Fin 16) (r : ChannelRow) : (s.setRow c r).row d = if c = d then r else s.row d :=
  vget_vset _ _ _ _

theorem State.entry_stand (i j : Fin 48) (st : EntryState) (r : Reason) :
    (s.stand i st r).entry j = if i = j then (s.entry i).stand st r else s.entry j :=
  vget_vset _ _ _ _

@[simp] theorem State.port_postAll (n : Notice) (p : PortId) : (s.postAll n).port p = (s.port p).post n :=
  PerPort.get_map _ _ _

theorem State.port_postPanels (n : Notice) (p : PortId) :
    (s.postPanels n).port p = if (s.port p).role = .panel then (s.port p).post n else s.port p :=
  PerPort.get_map _ _ _

/-! ### The same event at every index -/

/-- What a step at each index keeps, the step at every index keeps. -/
theorem forEach_keeps {n : Nat} {P : State → Prop} (f : Fin n → State → State) (h : ∀ i t, P t → P (f i t)) (t : State) (ht : P t) :
    P (forEach f t) := by
  unfold forEach
  generalize indexes n = l
  induction l generalizing t with
  | nil => exact ht
  | cons i l ih => exact ih (f i t) (h i t ht)

/-- What a step at each index leaves as it is, the step at every index leaves as it is. -/
theorem forEach_same {n : Nat} {α : Type} (g : State → α) (f : Fin n → State → State) (h : ∀ i t, g (f i t) = g t) (t : State) :
    g (forEach f t) = g t :=
  forEach_keeps (P := fun u => g u = g t) f (fun i u hu => (h i u).trans hu) t rfl

/-- What each step of a fold leaves as it is, the fold leaves as it is. -/
theorem foldl_same {α β : Type} (g : State → α) (f : State → β → State) (h : ∀ t b, g (f t b) = g t) (l : List β) (t : State) :
    g (l.foldl f t) = g t := by
  induction l generalizing t with
  | nil => rfl
  | cons b l ih => exact (ih (f t b)).trans (h t b)

/-! ### Notices -/

/-- What a posted notice can do to a port: nothing to one that is DISABLED, the notice appended to a queue with room, and the oldest
lost with the overrun flag set otherwise (R22). -/
theorem Port.post_cases (x : Port) (n : Notice) :
    (x.role = .disabled ∧ x.post n = x)
      ∨ (x.role ≠ .disabled ∧ x.notices.length < 8 ∧ x.post n = { x with notices := x.notices ++ [n] })
      ∨ (x.role ≠ .disabled ∧ 8 ≤ x.notices.length ∧ (x.post n).notices = x.notices.drop 1 ++ [n] ∧ (x.post n).overrun = true) := by
  unfold Port.post
  by_cases h : x.role = .disabled
  · simp [h]
  · by_cases h8 : x.notices.length < 8
    · simp [h, h8, Config.noticeQueueDepth]
    · simp [h, h8, Config.noticeQueueDepth]; omega

/-- A posted notice changes the queue, the overrun flag and the open NOTICE frame of a port, and nothing else. -/
theorem Port.post_frame (x : Port) (n : Notice) :
    (x.post n).role = x.role ∧ (x.post n).staging = x.staging ∧ (x.post n).readout = x.readout
      ∧ (x.post n).collided = x.collided ∧ (x.post n).aborted = x.aborted ∧ (x.post n).judged = x.judged
      ∧ (x.post n).lastResult = x.lastResult ∧ (x.post n).lastRecord = x.lastRecord ∧ (x.post n).requests = x.requests
      ∧ (x.post n).out = x.out := by
  unfold Port.post; split <;> [skip; split] <;> simp

/-- A queue that holds no more than 8 notices still does after a post. -/
theorem Port.post_length (x : Port) (n : Notice) (h : x.notices.length ≤ 8) : (x.post n).notices.length ≤ 8 := by
  rcases x.post_cases n with ⟨_, e⟩ | ⟨_, hl, e⟩ | ⟨_, hl, e, _⟩
  · rwa [e]
  · rw [e]; simp; omega
  · rw [e]; simp; omega

end Sys2Proof.Machine
end

