-- ==== Sys2Proof/Laws/Frames.lean ====
section
/-! SUPPORT. What a steady re-evaluation and the motion controller's events cannot change: everything of the state but the ports, the demand
entries, the budget record, the channels, the two machines and the mark `owed`. -/

namespace Sys2Proof.Machine

open Sys2Proof

/-- The part of the state that no steady re-evaluation touches. -/
structure Rest where
  engine : Engine
  modeCtl : ModeControl
  line : LineControl
  polls : Vector PollEntry 32
  meas : Vector MeasRecord 24
  queue : ReadingQueue
  battery : BatteryParams
  account : Account
  sched : Scheduler
  bank : BankTimers
  motionParams : MotionParams
  wind : WindControl
  frostParams : FrostParams
  frost : FrostControl
  switches : Switches
  pending : List Instr

/-- That part of a state. -/
def State.rest (s : State) : Rest :=
  { engine := s.engine
    modeCtl := s.modeCtl
    line := s.line
    polls := s.polls
    meas := s.meas
    queue := s.queue
    battery := s.battery
    account := s.account
    sched := s.sched
    bank := s.bank
    motionParams := s.motionParams
    wind := s.wind
    frostParams := s.frostParams
    frost := s.frost
    switches := s.switches
    pending := s.pending }

variable (s : State)

@[simp] theorem State.setPort_rest (p : PortId) (x : Port) : (s.setPort p x).rest = s.rest := rfl
@[simp] theorem State.setEntry_rest (i : Fin 48) (e : Entry) : (s.setEntry i e).rest = s.rest := rfl
@[simp] theorem State.setBudget_rest (x : Budget) : (s.setBudget x).rest = s.rest := rfl
@[simp] theorem State.setRow_rest (c : Fin 16) (r : ChannelRow) : (s.setRow c r).rest = s.rest := rfl
@[simp] theorem State.setChannel_rest (c : Fin 16) (x : Channel) : (s.setChannel c x).rest = s.rest := rfl
@[simp] theorem State.setStep_rest (x : StepControl) : (s.setStep x).rest = s.rest := rfl
@[simp] theorem State.setAwning_rest (x : AwningControl) : (s.setAwning x).rest = s.rest := rfl
@[simp] theorem State.setOwed_rest (b : Bool) : (s.setOwed b).rest = s.rest := rfl
@[simp] theorem State.postAll_rest (n : Notice) : (s.postAll n).rest = s.rest := rfl
@[simp] theorem State.postPanels_rest (n : Notice) : (s.postPanels n).rest = s.rest := rfl
@[simp] theorem State.postTo_rest (p : PortId) (n : Notice) : (s.postTo p n).rest = s.rest := rfl
@[simp] theorem State.stand_rest (i : Fin 48) (st : EntryState) (r : Reason) : (s.stand i st r).rest = s.rest := rfl
@[simp] theorem State.award_rest (i : Fin 48) (v : Verdict) : (s.award i v).rest = s.rest := rfl
@[simp] theorem State.stepTo_rest (st : StepState) : (s.stepTo st).rest = s.rest := rfl
@[simp] theorem State.awningTo_rest (st : AwningState) : (s.awningTo st).rest = s.rest := rfl
@[simp] theorem State.awningAim_rest (t : AwningTarget) : (s.awningAim t).rest = s.rest := rfl
@[simp] theorem State.postMotion_rest (b : Bridge) (ev : MotionEvent) : (s.postMotion b ev).rest = s.rest := rfl

/-! ### The machines -/

@[simp] theorem State.finishEntry_rest (b : Bridge) (i : Fin 48) (r : Reason) : (s.finishEntry b i r).rest = s.rest := by
  unfold State.finishEntry; dsimp only; split <;> simp
@[simp] theorem State.stepFinish_rest (r : Reason) : (s.stepFinish r).rest = s.rest := by
  unfold State.stepFinish; split <;> simp
@[simp] theorem State.stepResolve_rest : (s.stepResolve).rest = s.rest := rfl
@[simp] theorem State.stepStop_rest : (s.stepStop).rest = s.rest := rfl
@[simp] theorem State.stepStarted_rest (d : Direction) : (s.stepStarted d).rest = s.rest := rfl
@[simp] theorem State.stepDrive_rest (d : Direction) : (s.stepDrive d).rest = s.rest := by
  unfold State.stepDrive; dsimp only; (repeat' split) <;> simp
@[simp] theorem State.stepClear_rest : (s.stepClear).rest = s.rest := by
  unfold State.stepClear; dsimp only; split <;> simp
@[simp] theorem State.stepCarry_rest (v : MotionValue) : (s.stepCarry v).rest = s.rest := by
  unfold State.stepCarry; (repeat' split) <;> simp
@[simp] theorem State.stepAccept_rest (o : Operation) : (s.stepAccept o).rest = s.rest := by
  unfold State.stepAccept; dsimp only; (repeat' split) <;> simp
@[simp] theorem State.stepLoss_rest : (s.stepLoss).rest = s.rest := by
  unfold State.stepLoss; split <;> simp
@[simp] theorem State.stepHand_rest (g : Option Operation) : (s.stepHand g).rest = s.rest := by
  unfold State.stepHand; (repeat' split) <;> simp
@[simp] theorem State.stepTripped_rest : (s.stepTripped).rest = s.rest := by
  unfold State.stepTripped; split <;> simp
@[simp] theorem State.stepArrive_rest (r : Reason) : (s.stepArrive r).rest = s.rest := by unfold State.stepArrive; simp
@[simp] theorem State.stepBothActive_rest : (s.stepBothActive).rest = s.rest := by
  unfold State.stepBothActive; dsimp only; split <;> simp
@[simp] theorem State.stepActivated_rest (b : Bool) : (s.stepActivated b).rest = s.rest := by
  unfold State.stepActivated; dsimp only; (repeat' split) <;> simp
@[simp] theorem State.stepDeactivated_rest : (s.stepDeactivated).rest = s.rest := by
  unfold State.stepDeactivated; split <;> simp
@[simp] theorem State.stepTimeout_rest : (s.stepTimeout).rest = s.rest := by
  unfold State.stepTimeout; dsimp only; split <;> simp
@[simp] theorem State.stepJam_rest : (s.stepJam).rest = s.rest := by
  unfold State.stepJam; (repeat' split) <;> simp
@[simp] theorem State.stepSample_rest (n : Nat) (b : Bool) : (s.stepSample n b).rest = s.rest := by
  unfold State.stepSample; dsimp only; (repeat' split) <;> simp
@[simp] theorem State.stepRetry_rest : (s.stepRetry).rest = s.rest := by unfold State.stepRetry; simp
@[simp] theorem State.awningFinish_rest (r : Reason) : (s.awningFinish r).rest = s.rest := by
  unfold State.awningFinish; split <;> simp
@[simp] theorem State.awningResolve_rest : (s.awningResolve).rest = s.rest := rfl
@[simp] theorem State.awningStop_rest : (s.awningStop).rest = s.rest := rfl
@[simp] theorem State.awningArrive_rest : (s.awningArrive).rest = s.rest := by unfold State.awningArrive; simp
@[simp] theorem State.awningCompare_rest : (s.awningCompare).rest = s.rest := by
  unfold State.awningCompare; (repeat' split) <;> simp
@[simp] theorem State.awningStarted_rest (d : Direction) : (s.awningStarted d).rest = s.rest := by unfold State.awningStarted; simp
@[simp] theorem State.awningDrive_rest (d : Direction) : (s.awningDrive d).rest = s.rest := by
  unfold State.awningDrive; dsimp only; (repeat' split) <;> simp
@[simp] theorem State.awningClear_rest : (s.awningClear).rest = s.rest := by unfold State.awningClear; simp
@[simp] theorem State.awningSeek_rest (t : Nat) : (s.awningSeek t).rest = s.rest := by
  unfold State.awningSeek; (repeat' split) <;> simp
@[simp] theorem State.awningCarry_rest (v : MotionValue) : (s.awningCarry v).rest = s.rest := by
  unfold State.awningCarry; dsimp only; (repeat' split) <;> simp
@[simp] theorem State.awningAccept_rest (o : Operation) : (s.awningAccept o).rest = s.rest := rfl
@[simp] theorem State.awningLoss_rest : (s.awningLoss).rest = s.rest := by
  unfold State.awningLoss; split <;> simp
@[simp] theorem State.awningHand_rest (g : Option Operation) : (s.awningHand g).rest = s.rest := by
  unfold State.awningHand; (repeat' split) <;> simp
@[simp] theorem State.awningTripped_rest : (s.awningTripped).rest = s.rest := by
  unfold State.awningTripped; split <;> simp
@[simp] theorem State.awningPulse_rest : (s.awningPulse).rest = s.rest := by unfold State.awningPulse; simp
@[simp] theorem State.awningActivated_rest : (s.awningActivated).rest = s.rest := by
  unfold State.awningActivated; dsimp only; (repeat' split) <;> simp
@[simp] theorem State.awningDeactivated_rest : (s.awningDeactivated).rest = s.rest := by
  unfold State.awningDeactivated; split <;> simp
@[simp] theorem State.awningStall_rest : (s.awningStall).rest = s.rest := by
  unfold State.awningStall; (repeat' split) <;> simp
@[simp] theorem State.awningTimeout_rest : (s.awningTimeout).rest = s.rest := by
  unfold State.awningTimeout; split <;> simp
@[simp] theorem State.awningRetry_rest : (s.awningRetry).rest = s.rest := by unfold State.awningRetry; simp

/-! ### The bank and the allocator -/

@[simp] theorem State.clearLockout_rest (c : Fin 16) : (s.clearLockout c).rest = s.rest := by
  unfold State.clearLockout; dsimp only; split <;> simp
@[simp] theorem State.dropRun_rest : (s.dropRun).rest = s.rest := by
  unfold State.dropRun; split <;> simp
@[simp] theorem State.endRunAs_rest (st : EntryState) (r : Reason) : (s.endRunAs st r).rest = s.rest := by
  unfold State.endRunAs; (repeat' split) <;> simp
@[simp] theorem State.dropRunOf_rest (i : Fin 48) : (s.dropRunOf i).rest = s.rest := by
  unfold State.dropRunOf; split <;> simp
@[simp] theorem State.freeEntry_rest (i : Fin 48) : (s.freeEntry i).rest = s.rest := by unfold State.freeEntry; simp
@[simp] theorem State.endRunOfMoved_rest (i : Fin 48) (c : Fin 16) : (s.endRunOfMoved i c).rest = s.rest := by
  unfold State.endRunOfMoved; split <;> simp
@[simp] theorem State.armEntry_rest (i : Fin 48) (f : EntryFields) : (s.armEntry i f).rest = s.rest := by unfold State.armEntry; simp
@[simp] theorem State.armStep_rest : (s.armStep).rest = s.rest := by
  unfold State.armStep; split <;> simp
@[simp] theorem State.armAwning_rest : (s.armAwning).rest = s.rest := by
  unfold State.armAwning; split <;> simp
@[simp] theorem State.windForce_rest : (s.windForce).rest = s.rest := by
  unfold State.windForce; split <;> simp
@[simp] theorem State.recomputeBudget_rest : (s.recomputeBudget).rest = s.rest := rfl

theorem foldl_pair_rest {β : Type} (f : Nat × State → β → Nat × State) (h : ∀ a b, (f a b).2.rest = a.2.rest) (l : List β)
    (a : Nat × State) : (l.foldl f a).2.rest = a.2.rest := by
  induction l generalizing a with
  | nil => rfl
  | cons b l ih => exact (ih (f a b)).trans (h a b)

@[simp] theorem State.takeWinner_rest (shielded short : Bool) (steady : Nat) (acc : Nat × State) (i : Fin 48) :
    (s.takeWinner shielded short steady acc i).2.rest = acc.2.rest := rfl

@[simp] theorem State.supersede_rest : s.supersede.rest = s.rest :=
  forEach_same State.rest _ (fun i t => by split <;> simp) s

@[simp] theorem State.settleSteady_rest : s.settleSteady.rest = s.rest := by
  unfold State.settleSteady
  simp only [State.setBudget_rest]
  refine (foldl_pair_rest _ (fun a b => State.takeWinner_rest s _ _ _ a b) _ _).trans ?_
  refine (foldl_pair_rest _ (fun a b => State.takeWinner_rest s _ _ _ a b) _ _).trans ?_
  refine (foldl_pair_rest (fun (acc : Nat × State) i => (acc.1 + (s.exemptVerdict i).adds, acc.2.award i (s.exemptVerdict i)))
    (fun a b => State.award_rest a.2 b _) _ (0, s.supersede)).trans ?_
  exact State.supersede_rest s

@[simp] theorem State.cutShortRun_rest : s.cutShortRun.rest = s.rest := by
  unfold State.cutShortRun; (repeat' split) <;> simp

@[simp] theorem State.checkHeavy_rest (i : Fin 48) : (State.checkHeavy i s).rest = s.rest := by
  unfold State.checkHeavy
  simp only
  (repeat' split) <;> simp

@[simp] theorem State.handChannel_rest (c : Fin 16) : (State.handChannel c s).rest = s.rest := by
  unfold State.handChannel
  simp only
  (repeat' split) <;> simp

@[simp] theorem State.allocate_rest : s.allocate.rest = s.rest := by
  unfold State.allocate
  simp only [State.setBudget_rest]
  rw [forEach_same State.rest _ (fun c t => State.handChannel_rest t c), forEach_same State.rest _ (fun i t => State.checkHeavy_rest t i)]
  simp

@[simp] theorem State.handMotion_rest : s.handMotion.rest = s.rest := by
  unfold State.handMotion
  simp only
  (repeat' split) <;> simp

@[simp] theorem settle_rest (n : Nat) (s : State) : (settle n s).rest = s.rest := by
  induction n generalizing s with
  | zero => rfl
  | succ n ih => unfold settle; split <;> simp [ih]

@[simp] theorem noticeEntry_rest (old : Entry) (r : Reason) (i : Fin 48) : (noticeEntry old r i s).rest = s.rest := by
  unfold noticeEntry; simp only; (repeat' split) <;> simp

@[simp] theorem noticeEntries_rest (base : Vector Entry 48) (r : Reason) : (noticeEntries base r s).rest = s.rest :=
  forEach_same State.rest _ (fun i t => noticeEntry_rest t _ r i) s

@[simp] theorem State.noticeReadiness_rest (b : Bool) : (s.noticeReadiness b).rest = s.rest := by
  unfold State.noticeReadiness; split <;> simp

@[simp] theorem State.reevaluateFrom_rest (base : Vector Entry 48) (r : Reason) : (s.reevaluateFrom base r).rest = s.rest := by
  unfold State.reevaluateFrom; simp

@[simp] theorem State.reevaluate_rest : s.reevaluate.rest = s.rest := State.reevaluateFrom_rest _ _ _

@[simp] theorem State.rebudget_rest : s.rebudget.rest = s.rest := by unfold State.rebudget; simp

theorem motionWork_rest (f : State → State) : (motionWork f s).rest = (f s).rest := by unfold motionWork; simp

theorem motionEvent_rest (f : State → State) : (motionEvent f s).rest = (f s).rest := by
  unfold motionEvent; simp only; split <;> simp [motionWork_rest]

/-! ### Field by field: everything that a steady re-evaluation leaves as it is -/

section

variable {t u : State}

theorem State.rest_engine (h : t.rest = u.rest) : t.engine = u.engine := congrArg Rest.engine h
theorem State.rest_modeCtl (h : t.rest = u.rest) : t.modeCtl = u.modeCtl := congrArg Rest.modeCtl h
theorem State.rest_line (h : t.rest = u.rest) : t.line = u.line := congrArg Rest.line h
theorem State.rest_polls (h : t.rest = u.rest) : t.polls = u.polls := congrArg Rest.polls h
theorem State.rest_meas (h : t.rest = u.rest) : t.meas = u.meas := congrArg Rest.meas h
theorem State.rest_queue (h : t.rest = u.rest) : t.queue = u.queue := congrArg Rest.queue h
theorem State.rest_battery (h : t.rest = u.rest) : t.battery = u.battery := congrArg Rest.battery h
theorem State.rest_account (h : t.rest = u.rest) : t.account = u.account := congrArg Rest.account h
theorem State.rest_sched (h : t.rest = u.rest) : t.sched = u.sched := congrArg Rest.sched h
theorem State.rest_bank (h : t.rest = u.rest) : t.bank = u.bank := congrArg Rest.bank h
theorem State.rest_motionParams (h : t.rest = u.rest) : t.motionParams = u.motionParams := congrArg Rest.motionParams h
theorem State.rest_wind (h : t.rest = u.rest) : t.wind = u.wind := congrArg Rest.wind h
theorem State.rest_frostParams (h : t.rest = u.rest) : t.frostParams = u.frostParams := congrArg Rest.frostParams h
theorem State.rest_frost (h : t.rest = u.rest) : t.frost = u.frost := congrArg Rest.frost h
theorem State.rest_switches (h : t.rest = u.rest) : t.switches = u.switches := congrArg Rest.switches h
theorem State.rest_pending (h : t.rest = u.rest) : t.pending = u.pending := congrArg Rest.pending h

end

@[simp] theorem State.reevaluateFrom_engine (base : Vector Entry 48) (r : Reason) : (s.reevaluateFrom base r).engine = s.engine :=
  State.rest_engine (State.reevaluateFrom_rest s base r)
@[simp] theorem State.reevaluate_engine : s.reevaluate.engine = s.engine := State.rest_engine (State.reevaluate_rest s)
@[simp] theorem State.reevaluateFrom_modeCtl (base : Vector Entry 48) (r : Reason) : (s.reevaluateFrom base r).modeCtl = s.modeCtl :=
  State.rest_modeCtl (State.reevaluateFrom_rest s base r)
@[simp] theorem State.reevaluate_modeCtl : s.reevaluate.modeCtl = s.modeCtl := State.rest_modeCtl (State.reevaluate_rest s)
@[simp] theorem State.reevaluateFrom_line (base : Vector Entry 48) (r : Reason) : (s.reevaluateFrom base r).line = s.line :=
  State.rest_line (State.reevaluateFrom_rest s base r)
@[simp] theorem State.reevaluate_line : s.reevaluate.line = s.line := State.rest_line (State.reevaluate_rest s)
@[simp] theorem State.reevaluateFrom_polls (base : Vector Entry 48) (r : Reason) : (s.reevaluateFrom base r).polls = s.polls :=
  State.rest_polls (State.reevaluateFrom_rest s base r)
@[simp] theorem State.reevaluate_polls : s.reevaluate.polls = s.polls := State.rest_polls (State.reevaluate_rest s)
@[simp] theorem State.reevaluateFrom_meas (base : Vector Entry 48) (r : Reason) : (s.reevaluateFrom base r).meas = s.meas :=
  State.rest_meas (State.reevaluateFrom_rest s base r)
@[simp] theorem State.reevaluate_meas : s.reevaluate.meas = s.meas := State.rest_meas (State.reevaluate_rest s)
@[simp] theorem State.reevaluateFrom_queue (base : Vector Entry 48) (r : Reason) : (s.reevaluateFrom base r).queue = s.queue :=
  State.rest_queue (State.reevaluateFrom_rest s base r)
@[simp] theorem State.reevaluate_queue : s.reevaluate.queue = s.queue := State.rest_queue (State.reevaluate_rest s)
@[simp] theorem State.reevaluateFrom_battery (base : Vector Entry 48) (r : Reason) : (s.reevaluateFrom base r).battery = s.battery :=
  State.rest_battery (State.reevaluateFrom_rest s base r)
@[simp] theorem State.reevaluate_battery : s.reevaluate.battery = s.battery := State.rest_battery (State.reevaluate_rest s)
@[simp] theorem State.reevaluateFrom_account (base : Vector Entry 48) (r : Reason) : (s.reevaluateFrom base r).account = s.account :=
  State.rest_account (State.reevaluateFrom_rest s base r)
@[simp] theorem State.reevaluate_account : s.reevaluate.account = s.account := State.rest_account (State.reevaluate_rest s)
@[simp] theorem State.reevaluateFrom_sched (base : Vector Entry 48) (r : Reason) : (s.reevaluateFrom base r).sched = s.sched :=
  State.rest_sched (State.reevaluateFrom_rest s base r)
@[simp] theorem State.reevaluate_sched : s.reevaluate.sched = s.sched := State.rest_sched (State.reevaluate_rest s)
@[simp] theorem State.reevaluateFrom_bank (base : Vector Entry 48) (r : Reason) : (s.reevaluateFrom base r).bank = s.bank :=
  State.rest_bank (State.reevaluateFrom_rest s base r)
@[simp] theorem State.reevaluate_bank : s.reevaluate.bank = s.bank := State.rest_bank (State.reevaluate_rest s)
@[simp] theorem State.reevaluateFrom_motionParams (base : Vector Entry 48) (r : Reason) : (s.reevaluateFrom base r).motionParams = s.motionParams :=
  State.rest_motionParams (State.reevaluateFrom_rest s base r)
@[simp] theorem State.reevaluate_motionParams : s.reevaluate.motionParams = s.motionParams := State.rest_motionParams (State.reevaluate_rest s)
@[simp] theorem State.reevaluateFrom_wind (base : Vector Entry 48) (r : Reason) : (s.reevaluateFrom base r).wind = s.wind :=
  State.rest_wind (State.reevaluateFrom_rest s base r)
@[simp] theorem State.reevaluate_wind : s.reevaluate.wind = s.wind := State.rest_wind (State.reevaluate_rest s)
@[simp] theorem State.reevaluateFrom_frostParams (base : Vector Entry 48) (r : Reason) : (s.reevaluateFrom base r).frostParams = s.frostParams :=
  State.rest_frostParams (State.reevaluateFrom_rest s base r)
@[simp] theorem State.reevaluate_frostParams : s.reevaluate.frostParams = s.frostParams := State.rest_frostParams (State.reevaluate_rest s)
@[simp] theorem State.reevaluateFrom_frost (base : Vector Entry 48) (r : Reason) : (s.reevaluateFrom base r).frost = s.frost :=
  State.rest_frost (State.reevaluateFrom_rest s base r)
@[simp] theorem State.reevaluate_frost : s.reevaluate.frost = s.frost := State.rest_frost (State.reevaluate_rest s)
@[simp] theorem State.reevaluateFrom_switches (base : Vector Entry 48) (r : Reason) : (s.reevaluateFrom base r).switches = s.switches :=
  State.rest_switches (State.reevaluateFrom_rest s base r)
@[simp] theorem State.reevaluate_switches : s.reevaluate.switches = s.switches := State.rest_switches (State.reevaluate_rest s)
@[simp] theorem State.reevaluateFrom_pending (base : Vector Entry 48) (r : Reason) : (s.reevaluateFrom base r).pending = s.pending :=
  State.rest_pending (State.reevaluateFrom_rest s base r)
@[simp] theorem State.reevaluate_pending : s.reevaluate.pending = s.pending := State.rest_pending (State.reevaluate_rest s)

end Sys2Proof.Machine
end

