-- ==== Sys2Proof/WellFormed.lean ====
section
/-! DEFINITION. The checks a command must meet to be one the block can receive: a frame command that names its
request closes a frame of at least one byte, an ABORTED_FRAME carries no known request code, and a sense event
carries one sample for each channel. -/

namespace Sys2Proof

/-- The request codes 1 to 8 of table 11.1. -/
def knownRequestCode (b : Byte) : Bool := 1 ≤ b.toNat && b.toNat ≤ 8

/-- A command the block can receive. Every other value of the operands is admitted by their types. -/
def Instr.wellFormed : Instr → Bool
  | .status _ n => 0 < n
  | .view _ n => 0 < n
  | .read _ n => 0 < n
  | .notice _ (.closed n) => 0 < n
  | .abortedFrame _ bytes =>
    match bytes with
    | [] => true
    | code :: _ => !knownRequestCode code
  | .senseEvent samples => samples.length == 16
  | .stage .. | .commit .. | .fetch .. | .fetchView .. | .notice _ .codeReceived | .transferStart
  | .commitCompletion | .fetchCompletion | .powerOnReset .. | .vehicleTimerExpiry | .pollPeriodStart | .shuntPoll
  | .listPoll | .responseCharacter _ | .responseWindowExpiry | .gapExpiry | .strayCharacter _ | .holdTimerExpiry _
  | .slotBoundary | .rampEvent | .pulsePeriodEnd | .inrushWindowClose _ | .retryExpiry _ | .cleanTimeReached _
  | .deadTimerExpiry _ | .stepInSwitchChange _ | .stepOutSwitchChange _ | .awningInSwitchChange _
  | .awningHallPulse | .stepTravelTimerExpiry | .stepJamRetryExpiry | .awningStallTimerExpiry
  | .awningTravelTimerExpiry | .awningStallRetryExpiry | .windHoldExpiry | .drainTimerExpiry | .frameOpen _ => true

end Sys2Proof
end

