-- ==== Sys2Proof/Laws/PerInstr.lean ====
section
/-! SUPPORT. The statement made of every command by its syntax: a well-formed command that closes a frame closes one of at least one
complete byte, but for the ABORTED_FRAME of no byte (R3, R4). -/

namespace Sys2Proof.Laws

open Sys2Proof

/-- The complete bytes of the frame that a command closes, the request code among them; none for a command that closes no frame. -/
def frameBytes : Instr → Option Nat
  | .status _ n => some n
  | .stage _ body => some (body.length + 1)
  | .commit _ body => some (body.length + 1)
  | .fetch _ body => some (body.length + 1)
  | .view _ n => some n
  | .fetchView _ body => some (body.length + 1)
  | .read _ n => some n
  | .notice _ (.closed n) => some n
  | .abortedFrame _ bytes => some bytes.length
  | .notice _ .codeReceived | .transferStart | .commitCompletion | .fetchCompletion | .powerOnReset ..
  | .vehicleTimerExpiry | .pollPeriodStart | .shuntPoll | .listPoll | .responseCharacter .. | .responseWindowExpiry
  | .gapExpiry | .strayCharacter .. | .holdTimerExpiry .. | .slotBoundary | .rampEvent | .pulsePeriodEnd
  | .senseEvent .. | .inrushWindowClose .. | .retryExpiry .. | .cleanTimeReached .. | .deadTimerExpiry ..
  | .stepInSwitchChange .. | .stepOutSwitchChange .. | .awningInSwitchChange .. | .awningHallPulse
  | .stepTravelTimerExpiry | .stepJamRetryExpiry | .awningStallTimerExpiry | .awningTravelTimerExpiry
  | .awningStallRetryExpiry | .windHoldExpiry | .drainTimerExpiry | .frameOpen .. => none

/-- A well-formed command that closes a frame of no complete byte is an ABORTED_FRAME. -/
def FrameBytes.Statement (i : Instr) : Prop :=
  i.wellFormed = true → frameBytes i = some 0 → ∃ p, i = .abortedFrame p []

theorem FrameBytes.status (p : PortId) (n : Nat) : FrameBytes.Statement (.status p n) := by
  intro w e
  simp_all [frameBytes, Instr.wellFormed]
theorem FrameBytes.stage (p : PortId) (body : List Byte) : FrameBytes.Statement (.stage p body) := by intro _ e; cases e
theorem FrameBytes.commit (p : PortId) (body : List Byte) : FrameBytes.Statement (.commit p body) := by intro _ e; cases e
theorem FrameBytes.fetch (p : PortId) (body : List Byte) : FrameBytes.Statement (.fetch p body) := by intro _ e; cases e
theorem FrameBytes.view (p : PortId) (n : Nat) : FrameBytes.Statement (.view p n) := by
  intro w e
  simp_all [frameBytes, Instr.wellFormed]
theorem FrameBytes.fetchView (p : PortId) (body : List Byte) : FrameBytes.Statement (.fetchView p body) := by intro _ e; cases e
theorem FrameBytes.read (p : PortId) (n : Nat) : FrameBytes.Statement (.read p n) := by
  intro w e
  simp_all [frameBytes, Instr.wellFormed]
theorem FrameBytes.notice (p : PortId) (phase : NoticePhase) : FrameBytes.Statement (.notice p phase) := by
  intro w e
  cases phase <;> simp_all [frameBytes, Instr.wellFormed]
theorem FrameBytes.abortedFrame (p : PortId) (bytes : List Byte) : FrameBytes.Statement (.abortedFrame p bytes) := by
  intro _ e
  exact ⟨p, by simp_all [frameBytes]⟩
theorem FrameBytes.transferStart : FrameBytes.Statement (.transferStart) := by intro _ e; cases e
theorem FrameBytes.commitCompletion : FrameBytes.Statement (.commitCompletion) := by intro _ e; cases e
theorem FrameBytes.fetchCompletion : FrameBytes.Statement (.fetchCompletion) := by intro _ e; cases e
theorem FrameBytes.powerOnReset (straps : Straps) (switches : Switches) :
    FrameBytes.Statement (.powerOnReset straps switches) := by intro _ e; cases e
theorem FrameBytes.vehicleTimerExpiry : FrameBytes.Statement (.vehicleTimerExpiry) := by intro _ e; cases e
theorem FrameBytes.pollPeriodStart : FrameBytes.Statement (.pollPeriodStart) := by intro _ e; cases e
theorem FrameBytes.shuntPoll : FrameBytes.Statement (.shuntPoll) := by intro _ e; cases e
theorem FrameBytes.listPoll : FrameBytes.Statement (.listPoll) := by intro _ e; cases e
theorem FrameBytes.responseCharacter (c : LineChar) : FrameBytes.Statement (.responseCharacter c) := by intro _ e; cases e
theorem FrameBytes.responseWindowExpiry : FrameBytes.Statement (.responseWindowExpiry) := by intro _ e; cases e
theorem FrameBytes.gapExpiry : FrameBytes.Statement (.gapExpiry) := by intro _ e; cases e
theorem FrameBytes.strayCharacter (c : LineChar) : FrameBytes.Statement (.strayCharacter c) := by intro _ e; cases e
theorem FrameBytes.holdTimerExpiry (e : Fin 48) : FrameBytes.Statement (.holdTimerExpiry e) := by intro _ e; cases e
theorem FrameBytes.slotBoundary : FrameBytes.Statement (.slotBoundary) := by intro _ e; cases e
theorem FrameBytes.rampEvent : FrameBytes.Statement (.rampEvent) := by intro _ e; cases e
theorem FrameBytes.pulsePeriodEnd : FrameBytes.Statement (.pulsePeriodEnd) := by intro _ e; cases e
theorem FrameBytes.senseEvent (samples : List Nat) : FrameBytes.Statement (.senseEvent samples) := by intro _ e; cases e
theorem FrameBytes.inrushWindowClose (c : Fin 16) : FrameBytes.Statement (.inrushWindowClose c) := by intro _ e; cases e
theorem FrameBytes.retryExpiry (c : Fin 16) : FrameBytes.Statement (.retryExpiry c) := by intro _ e; cases e
theorem FrameBytes.cleanTimeReached (c : Fin 16) : FrameBytes.Statement (.cleanTimeReached c) := by intro _ e; cases e
theorem FrameBytes.deadTimerExpiry (b : Bridge) : FrameBytes.Statement (.deadTimerExpiry b) := by intro _ e; cases e
theorem FrameBytes.stepInSwitchChange (active : Bool) : FrameBytes.Statement (.stepInSwitchChange active) := by intro _ e; cases e
theorem FrameBytes.stepOutSwitchChange (active : Bool) :
    FrameBytes.Statement (.stepOutSwitchChange active) := by intro _ e; cases e
theorem FrameBytes.awningInSwitchChange (active : Bool) :
    FrameBytes.Statement (.awningInSwitchChange active) := by intro _ e; cases e
theorem FrameBytes.awningHallPulse : FrameBytes.Statement (.awningHallPulse) := by intro _ e; cases e
theorem FrameBytes.stepTravelTimerExpiry : FrameBytes.Statement (.stepTravelTimerExpiry) := by intro _ e; cases e
theorem FrameBytes.stepJamRetryExpiry : FrameBytes.Statement (.stepJamRetryExpiry) := by intro _ e; cases e
theorem FrameBytes.awningStallTimerExpiry : FrameBytes.Statement (.awningStallTimerExpiry) := by intro _ e; cases e
theorem FrameBytes.awningTravelTimerExpiry : FrameBytes.Statement (.awningTravelTimerExpiry) := by intro _ e; cases e
theorem FrameBytes.awningStallRetryExpiry : FrameBytes.Statement (.awningStallRetryExpiry) := by intro _ e; cases e
theorem FrameBytes.windHoldExpiry : FrameBytes.Statement (.windHoldExpiry) := by intro _ e; cases e
theorem FrameBytes.drainTimerExpiry : FrameBytes.Statement (.drainTimerExpiry) := by intro _ e; cases e
theorem FrameBytes.frameOpen (p : PortId) : FrameBytes.Statement (.frameOpen p) := by intro _ e; cases e

end Sys2Proof.Laws
end

