-- ==== Sys2Proof/Laws/Ports.lean ====
section
/-! SUPPORT. What each shared operation of the client ports and of the transfer engine can do, said once (1.2 to 1.5). -/

namespace Sys2Proof.Machine

open Sys2Proof

variable (x : Port)

/-! ### Frames -/

/-- All that the close of a frame can do (R2, R3, R6): a DISABLED port shifts out zeros; with no frame open nothing closes; a frame of no
byte only closes; any other has its shown flags cleared before its request acts. -/
theorem Port.close_cases (n : Nat) (gives : List Byte) (request : Frame → Port → Port) :
    (x.role = .disabled ∧ x.close n gives request = { x with out := List.replicate n 0 })
      ∨ (x.role ≠ .disabled ∧ x.frame = none ∧ x.close n gives request = x)
      ∨ ∃ f, x.role ≠ .disabled ∧ x.frame = some f
          ∧ ((n = 0 ∧ x.close n gives request = { x with frame := none, out := shiftedOut f.status gives n })
            ∨ (n ≠ 0 ∧ x.close n gives request
                = request f (({ x with frame := none, out := shiftedOut f.status gives n } : Port).clearShown f.status))) := by
  unfold Port.close
  by_cases h : x.role = .disabled
  · simp [h]
  · cases hf : x.frame with
    | none => simp [h]
    | some f => by_cases h0 : n = 0 <;> simp [h, h0]

/-- The close of a frame of at least one byte on a port that is not DISABLED. -/
theorem Port.close_open {n : Nat} {f : Frame} (gives : List Byte) (request : Frame → Port → Port)
    (hr : x.role ≠ .disabled) (hf : x.frame = some f) (hn : n ≠ 0) :
    x.close n gives request
      = request f (({ x with frame := none, out := shiftedOut f.status gives n } : Port).clearShown f.status) := by
  simp [Port.close, hr, hf, hn]

@[simp] theorem Port.abort_eq : x.abort = { x with aborted := true } := rfl
@[simp] theorem Port.collide_eq : x.collide = { x with collided := true } := rfl

/-! ### The pairs -/

/-- All that a COMMIT can do (R8). -/
theorem Port.commit_cases (t : Nat) :
    (x.staging.state = .idle
        ∧ x.commit t = { x with staging := { x.staging.swap with state := .busy }, requests := x.requests ++ [.commit t] })
      ∨ (x.staging.state = .busy
        ∧ x.commit t = { x with staging := { x.staging with state := .busyPending, remembered := some t } })
      ∨ (x.staging.state = .busyPending ∧ x.commit t = x.collide) := by
  cases h : x.staging.state <;> simp [Port.commit, h]

/-- All that a STAGE can do (R7). -/
theorem Port.stage_cases (n : Nat) (bytes : List Byte) :
    (x.staging.state ≠ .busyPending ∧ x.stage n bytes = { x with staging := { x.staging with host := stagedHalf n bytes } })
      ∨ (x.staging.state = .busyPending ∧ x.stage n bytes = x.collide) := by
  cases h : x.staging.state <;> simp [Port.stage, h]

/-- All that a FETCH can do (R10). -/
theorem Port.fetch_cases (r : Nat) :
    (x.readout.state ≠ .busy ∧ x.fetch r = x.requestFetch r) ∨ (x.readout.state = .busy ∧ x.fetch r = x.collide) := by
  cases h : x.readout.state <;> simp [Port.fetch, h]

/-- All that a FETCH_VIEW can do (R10). -/
theorem Port.fetchView_cases (r : Nat) :
    (x.readout.state ≠ .busy ∧ x.fetchView r = ({ x with readout := x.readout.swap } : Port).requestFetch r)
      ∨ (x.readout.state = .busy ∧ x.fetchView r = x.collide) := by
  cases h : x.readout.state <;> simp [Port.fetchView, h]

/-- All that a VIEW can do (R11). -/
theorem Port.view_cases :
    (x.readout.state ≠ .busy ∧ x.view = { x with readout := { x.readout.swap with state := .idle } })
      ∨ (x.readout.state = .busy ∧ x.view = x.collide) := by
  cases h : x.readout.state <;> simp [Port.view, h]

/-- All that the completion of a commit can do to the staging pair (R9). -/
theorem Port.stagingDone_cases :
    (∃ t, x.staging.state = .busyPending ∧ x.staging.remembered = some t
        ∧ x.stagingDone
          = { x with
              staging := { x.staging.swap with state := .busy, remembered := none }
              requests := x.requests ++ [.commit t] })
      ∨ x.stagingDone = { x with staging := { x.staging with state := .idle, remembered := none } } := by
  cases h : x.staging.state <;> cases h' : x.staging.remembered <;> simp [Port.stagingDone, h, h']

/-- A fetch that completes changes the readout pair of the port and nothing else of it. -/
@[simp] theorem Port.fetchDone_staging (r : Nat) (result : FetchResult) (image : Vector Byte 48) :
    (x.fetchDone r result image).staging = x.staging := rfl
@[simp] theorem Port.fetchDone_notices (r : Nat) (result : FetchResult) (image : Vector Byte 48) :
    (x.fetchDone r result image).notices = x.notices := rfl
@[simp] theorem Port.fetchDone_role (r : Nat) (result : FetchResult) (image : Vector Byte 48) :
    (x.fetchDone r result image).role = x.role := rfl

/-! ### The transfer engine -/

/-- All that a transfer start can do (R14). -/
theorem State.startTransfer_cases (s : State) :
    s.startTransfer = s
      ∨ ∃ p r rest, s.engine.transfer = none ∧ (s.port p).requests = r :: rest
          ∧ s.startTransfer
            = (s.setPort p { s.port p with requests := rest }).setEngine
                { transfer := some { port := p, request := r }, pointer := p } := by
  unfold State.startTransfer
  split
  · rename_i p ht _
    split
    · rename_i r rest hr
      exact .inr ⟨p, r, rest, ht, hr, rfl⟩
    · exact .inl rfl
  · exact .inl rfl

/-- A fetch leaves every record but the fetched measurement record and the reading queue as it is (R13). -/
theorem State.storeFetched_cases (s : State) (p : PortId) (r : Nat) :
    s.storeFetched p r = s ∨ s.storeFetched p r = { s with queue := s.queue.pop }
      ∨ ∃ k, recordOf r = some (.meas k)
          ∧ s.storeFetched p r
            = s.setMeas k
                { s.measRec k with
                  unread := (s.measRec k).unread.set p false, lost := (s.measRec k).lost.set p false } := by
  unfold State.storeFetched
  split <;> simp_all

end Sys2Proof.Machine
end

