-- ==== Sys2Proof/Laws/ReadingQueue.lean ====
section
/-! SUPPORT. What the operations of the reading queue keep (4.5). -/

namespace Sys2Proof.Machine

open Sys2Proof

variable (q : ReadingQueue)

/-- A reading put into the queue: its fill count goes up by 1, or stays at 16 with the overrun flag set (R72). -/
theorem ReadingQueue.push_fill (r : QueuedReading) (h : q.fill ≤ 16) :
    (q.push r).fill = min 16 (q.fill + 1) ∧ ((q.push r).overrun = (q.overrun || decide (q.fill = 16))) := by
  have e : (16 ≤ q.fill) = (q.fill = 16) := propext ⟨fun _ => by omega, fun _ => by omega⟩
  exact ⟨rfl, by simp [ReadingQueue.push, e]⟩

/-- A reading taken from the queue: its fill count goes down by 1, and an empty queue stays as it is (R73). -/
theorem ReadingQueue.pop_fill : q.pop.fill = q.fill - 1 := by
  unfold ReadingQueue.pop
  split <;> simp_all

/-- Taking a reading leaves every place as it is. -/
@[simp] theorem ReadingQueue.pop_places : q.pop.places = q.places := by
  unfold ReadingQueue.pop
  split <;> rfl

end Sys2Proof.Machine
end

