-- ==== Sys2Proof/Tests/Slice0.lean ====
section
/-! SUPPORT. Tests of single commands, their expected values taken from the manual's rules, code tables and worked cases, and for each
statement with hypotheses a concrete case that meets them. -/

namespace Sys2Proof.Tests

open Sys2Proof Sys2Proof.Machine Sys2Proof.Safety

set_option Elab.async false

/-! ### Small states, built on the reset state -/

/-- The state that a command leaves. -/
def after (c : Instr) (s : State) : State :=
  match exec c s with
  | .next t => t
  | .fault _ => s
  | .refused _ => s

/-- One port changed. -/
def withPort (p : PortId) (f : Port → Port) (s : State) : State := s.setPort p (f (s.port p))

/-- A frame of the port opened. -/
def opened (p : PortId) (s : State) : State := after (.frameOpen p) s

/-- The frame that a port opens on a state. -/
def frameOn (p : PortId) (s : State) : Frame := { status := (s.port p).status, notice := none }

/-- An image of 32 bytes with these at its start and zeros beyond. -/
def image (bytes : List Nat) : Vector Byte 32 := Vector.ofFn fun i => byteOf (bytes.getD i.1 0)

/-- A transfer in progress for the port. -/
def carrying (p : PortId) (r : Request) (s : State) : State := s.setEngine { s.engine with transfer := some { port := p, request := r } }

/-- The port's staging pair BUSY with this image in its shadow half, and its commit in progress. -/
def committing (p : PortId) (target : Nat) (bytes : List Nat) (s : State) : State :=
  carrying p (.commit target)
    (withPort p (fun x => { x with staging := { x.staging with state := .busy, shadow := image bytes } }) s)

def inMode (m : Mode) (s : State) : State := s.setModeCtl { s.modeCtl with mode := m }

def withChannel (c : Fin 16) (f : Channel → Channel) (s : State) : State := s.setChannel c (f (s.channel c))

def withEntry (i : Fin 48) (f : Entry → Entry) (s : State) : State := s.setEntry i (f (s.entry i))

/-- The reset state. -/
abbrev base : State := State.reset

/-- Channel 4 as the fridge of 8.8.2: a SWITCH with nominal 60, trip current 90 and inrush time 500. -/
def fridge (s : State) : State :=
  withChannel 4 (fun x => { x with desc := { kind := .switch, nominal := 60, trip := 90, rampRate := 10, inrushTime := 500 } }) s

/-- A client entry of CP0 on a channel, in some standing. -/
def clientEntry (i : Fin 48) (c : Fin 16) (d : Demand) (st : EntryState) (s : State) : State :=
  withEntry i
    (fun e =>
      { e with
        fields := { e.fields with channel := c, demand := d, cls := 1, persistence := .standing, arm := .armed }
        state := st, owner := some .cp0 })
    s

/-- Entry 6 of CP0 on the fridge, in some standing, in PARKED. -/
def fridgeEntry (st : EntryState) : State := clientEntry 6 4 (.level 100) st (fridge (inMode .parked base))

/-- A measurement record bound to address 20 and FRESH. -/
def freshRecord (k : Fin 24) (kind : MeasKind) (v : Int) (s : State) : State :=
  s.setMeas k
    { s.measRec k with
      desc := { address := 20, channel := 0, kind := kind, staleLimit := 8 }, value := v, freshness := .fresh, age := 0 }

/-- A poll of the shunt at address 40 in flight, with these characters received. -/
def shuntPollAt (received : List Byte) : State :=
  base.setLine
    { base.line with
      shuntAddress := 40, state := .receiving
      transaction := some { address := 40, source := .shunt, received := received, check := received.foldl checkAfter 0 } }

/-- Records 0 to 3 bound to the sender at address 40, for its current, voltage, temperature and interval, and designated for them. -/
def shuntRecords (s : State) : State :=
  let bind (k : Fin 24) (kind : MeasKind) (s : State) : State :=
    s.setMeas k { s.measRec k with desc := { address := 40, channel := 0, kind := kind, staleLimit := 8 } }
  { bind 3 .interval (bind 2 .temperature (bind 1 .voltage (bind 0 .current s))) with
    battery := { s.battery with current := some 0, voltage := some 1, temperature := some 2, interval := some 3 } }

/-- A heavy entry 8 on channel 11, class 2, in some standing. -/
def heavyEntry (d : Demand) (st : EntryState) : State :=
  withEntry 8 (fun e => { e with fields := { e.fields with cls := 2 } })
    (clientEntry 8 11 d st
      (withChannel 11 (fun x => { x with desc := { x.desc with kind := .heavy, nominal := 100 } }) (inMode .parked base)))

/-- A dimmer of nominal 60 on channel 8 at level 95 with a client entry in class 1, under some budget and tier. -/
def dimmerEntry (budget : Nat) (tier : Tier) : State :=
  let s := clientEntry 9 8 (.level 95) .waiting
    (withChannel 8 (fun x => { x with desc := { x.desc with kind := .dimmer, nominal := 60 } }) (inMode .parked base))
  (s.setBudget { s.budget with budget := budget }).setAccount { s.account with tier := tier }

/-- R119: the levels tried below 95 are 85, 75 and so on to 15, and none is tried below 15. -/
theorem test_degradedLevels :
    degradedLevels 95 = [85, 75, 65, 55, 45, 35, 25, 15] ∧ degradedLevels 15 = [] ∧ degradedLevels 20 = [10] := by decide

/-! ### Well-formedness: one ill-formed term for each check -/

theorem test_wellFormed_status : Instr.wellFormed (.status .cp0 0) = false := by decide
theorem test_wellFormed_view : Instr.wellFormed (.view .cp0 0) = false := by decide
theorem test_wellFormed_read : Instr.wellFormed (.read .cp0 0) = false := by decide
theorem test_wellFormed_notice : Instr.wellFormed (.notice .cp0 (.closed 0)) = false := by decide
theorem test_wellFormed_abortedFrame :
    Instr.wellFormed (.abortedFrame .cp0 [1]) = false ∧ Instr.wellFormed (.abortedFrame .cp0 [8]) = false
      ∧ Instr.wellFormed (.abortedFrame .cp0 [0]) = true ∧ Instr.wellFormed (.abortedFrame .cp0 [9]) = true := by decide
theorem test_wellFormed_senseEvent :
    Instr.wellFormed (.senseEvent (List.replicate 15 0)) = false
      ∧ Instr.wellFormed (.senseEvent (List.replicate 16 0)) = true := by decide

/-! ### The frames of Chapter 1 -/

/-- 11.1: CP2 is REMOTE (role 2, bits 7–6 of byte 0) with ABORTED set (bit 0). -/
theorem test_status_bytes :
    ((after (.status .cp2 5) (opened .cp2 (withPort .cp2 (fun x => { x with aborted := true }) base))).port .cp2).out
      = [129, 0, 0, 0, 0] := by decide +kernel

/-- R6: the flag that the copy shows is cleared; one that was set after the frame opened stays. -/
theorem test_status_clears_shown_flag :
    let s := opened .cp0 (withPort .cp0 (fun x => { x with aborted := true }) base)
    let t := after (.status .cp0 4) (withPort .cp0 (fun x => { x with collided := true }) s)
    (t.port .cp0).aborted = false ∧ (t.port .cp0).collided = true := by decide +kernel

/-- 1.8.2, step 5: a STAGE in BUSY_PENDING is not taken and sets COLLIDED. -/
theorem test_stage_busyPending :
    let s := opened .cp0 (withPort .cp0 (fun x => { x with staging := { x.staging with state := .busyPending } }) base)
    let t := after (.stage .cp0 [1, 77]) s
    (t.port .cp0).collided = true ∧ (t.port .cp0).staging.host = (s.port .cp0).staging.host := by decide +kernel

/-- R7: the positions beyond the staged length become 0. -/
theorem test_stage_zeroes_the_rest :
    let s := opened .cp0 (withPort .cp0 (fun x => { x with staging := { x.staging with host := image [9, 9, 9, 9] } }) base)
    ((after (.stage .cp0 [2, 5, 6, 7]) s).port .cp0).staging.host = image [5, 6] := by decide +kernel

/-- 1.8.2, step 2: a COMMIT in IDLE swaps the halves and requests the transfer. -/
theorem test_commit_idle :
    let s := opened .cp0 (withPort .cp0 (fun x => { x with staging := { x.staging with host := image [65] } }) base)
    let t := after (.commit .cp0 [20]) s
    (t.port .cp0).staging.state = .busy ∧ (t.port .cp0).staging.shadow = image [65]
      ∧ (t.port .cp0).staging.host = image [] ∧ (t.port .cp0).requests = [.commit 20] := by decide +kernel

/-- R4: a COMMIT without its record number is discarded. -/
theorem test_commit_short :
    ((after (.commit .cp0 []) (opened .cp0 base)).port .cp0).aborted = true
      ∧ ((after (.commit .cp0 []) (opened .cp0 base)).port .cp0).staging.state = .idle := by decide +kernel

/-- R10: a FETCH in READY starts a new fetch; a FETCH_VIEW in READY swaps first. -/
theorem test_fetch_and_fetchView_ready :
    let half : ReadoutHalf := { record := some 7, result := .fetched, image := Vector.replicate 48 3 }
    let s := opened .cp0 (withPort .cp0 (fun x => { x with readout := { x.readout with state := .ready, shadow := half } }) base)
    ((after (.fetch .cp0 [9]) s).port .cp0).readout.host = (s.port .cp0).readout.host
      ∧ ((after (.fetchView .cp0 [9]) s).port .cp0).readout.host = half
      ∧ ((after (.fetchView .cp0 [9]) s).port .cp0).requests = [.fetch 9] := by decide +kernel

/-- R11: a VIEW in BUSY is refused. -/
theorem test_view_busy :
    let s := opened .cp0 (withPort .cp0 (fun x => { x with readout := { x.readout with state := .busy } }) base)
    ((after (.view .cp0 4) s).port .cp0).collided = true ∧ ((after (.view .cp0 4) s).port .cp0).readout.state = .busy := by
  decide +kernel

/-- R12: after reset a READ shifts out record number NONE as 255 and fetch result NONE. -/
theorem test_read_after_reset : ((after (.read .cp0 7) (opened .cp0 base)).port .cp0).out = [0, 0, 0, 0, 255, 0, 0] := by
  decide +kernel

/-- R24: a NOTICE frame shifts out the oldest notice at positions 4 to 7 and removes it; one of 7 bytes leaves it (R4). -/
theorem test_notice :
    let n : Notice := { kind := .tier, subject := 112, value := 1 * 256 + 2 }
    let s := after (.notice .cp0 .codeReceived) (opened .cp0 (withPort .cp0 (fun x => x.post n) base))
    ((after (.notice .cp0 (.closed 8)) s).port .cp0).out = [0, 16, 0, 0, 2, 112, 1, 2]
      ∧ ((after (.notice .cp0 (.closed 8)) s).port .cp0).notices = []
      ∧ ((after (.notice .cp0 (.closed 7)) s).port .cp0).notices = [n]
      ∧ ((after (.notice .cp0 (.closed 7)) s).port .cp0).aborted = true := by decide +kernel

/-- R24: a notice that a post removes during the frame is not removed again. -/
theorem test_notice_removed_by_a_post :
    let n (v : Nat) : Notice := { kind := .stale, subject := 64, value := v }
    let s := after (.notice .cp0 .codeReceived)
      (opened .cp0 (withPort .cp0 (fun x => { x with notices := (List.range 8).map n }) base))
    ((after (.notice .cp0 (.closed 8)) (s.postAll (n 8))).port .cp0).notices = (List.range 8).map fun i => n (i + 1) := by
  decide +kernel

/-- R4, R3: an unknown code sets ABORTED; a frame of no byte does nothing. -/
theorem test_abortedFrame :
    ((after (.abortedFrame .cp0 [9]) (opened .cp0 base)).port .cp0).aborted = true
      ∧ after (.abortedFrame .cp0 []) (opened .cp0 base) = base := by decide +kernel

/-- R2: a DISABLED port opens no frame and shifts out zeros. -/
theorem test_disabled_port :
    let s := after (.powerOnReset { cp0 := 0, cp1 := 1, cp2 := 1 } homeSwitches) base
    (s.port .cp2).role = .disabled ∧ ((after (.status .cp2 3) (opened .cp2 s)).port .cp2).out = [0, 0, 0] := by decide +kernel

/-! ### Transfers -/

/-- 1.8.1, step 3: with the pointer at CP2 the search begins at CP0, although CP1 requested first. -/
theorem test_transferStart_order :
    let s := withPort .cp1 (fun x => { x with requests := [.commit 9] })
      (withPort .cp0 (fun x => { x with requests := [.commit 9] }) base)
    (after .transferStart s).engine = { transfer := some { port := .cp0, request := .commit 9 }, pointer := .cp0 } := by
  decide +kernel

/-- 1.8.1, step 5: the entry is owned by CP0, so the commit of CP1 is NOT_OWNER and is counted. -/
theorem test_commitCompletion_notOwner :
    let s := committing .cp2 9 [3, 1, 0, 100, 0, 1, 0, 0, 0, 0, 1, 1, 0, 1]
      (clientEntry 9 3 (.level 100) .waiting (inMode .parked base))
    let t := after .commitCompletion s
    (t.port .cp2).lastResult = .notOwner ∧ (t.port .cp2).lastRecord = 9 ∧ (t.port .cp2).judged = 1
      ∧ t.entries = s.entries := by decide +kernel

/-- 1.8.1: had the REMOTE port been served first, it would have claimed the entry with its class raised to 2, CLAMPED. -/
theorem test_commitCompletion_remote_claim :
    let s := committing .cp2 9 [3, 1, 0, 100, 0, 1, 0, 0, 0, 0, 1, 1, 0, 1]
      (withChannel 3 (fun x => { x with desc := { x.desc with kind := .dimmer, nominal := 20 } }) (inMode .parked base))
    let t := after .commitCompletion s
    (t.port .cp2).lastResult = .clamped ∧ (t.entry 9).owner = some .cp2 ∧ (t.entry 9).fields.cls = 2 := by decide +kernel

/-- 4.6.3, step 3: the fetch of record 124 takes the oldest reading and reports and clears the overrun flag. -/
theorem test_fetchCompletion_queue :
    let place (i : Fin 16) : QueuedReading :=
      { reading := { address := 30 + i.1, channel := 0, kind := .level, value := 400 }, arrival := 5 }
    let s := carrying .cp0 (.fetch 124)
      { base with queue := { places := Vector.ofFn place, put := 4, get := 4, fill := 16, overrun := true } }
    let t := after .fetchCompletion s
    (t.port .cp0).readout.shadow.image.toList.take 9 = [34, 0, 1, 1, 144, 0, 5, 15, 1]
      ∧ t.queue.get = 5 ∧ t.queue.fill = 15 ∧ t.queue.overrun = false := by decide +kernel

/-- R13, R15: a fetch of a number that the record store does not list gives BAD_RECORD. -/
theorem test_fetchCompletion_badRecord :
    let t := after .fetchCompletion (carrying .cp0 (.fetch 123) base)
    (t.port .cp0).readout.shadow.result = .badRecord ∧ (t.port .cp0).readout.state = .ready := by decide +kernel

/-! ### Modes -/

/-- R1: the lowest-numbered of two VEHICLE ports keeps the role; R25: SETUP after a power-on reset. -/
theorem test_powerOnReset :
    let t := after (.powerOnReset { cp0 := 1, cp1 := 1, cp2 := 0 } homeSwitches) (inMode .travel base)
    (t.port .cp0).role = .vehicle ∧ (t.port .cp1).role = .disabled ∧ (t.port .cp2).role = .panel ∧ t.mode = .setup := by
  decide +kernel

/-- 2.9.1, step 3: at the expiry with ignition ON the staleness is set and a VEHICLE notice with value 1 is posted. -/
theorem test_vehicleTimerExpiry :
    let s := base.setModeCtl { base.modeCtl with ignition := true, vehicleTimer := some 0 }
    let t := after .vehicleTimerExpiry s
    t.modeCtl.stale = true ∧ t.modeCtl.vehicleTimer = none ∧ (t.port .cp2).notices = [{ kind := .vehicle, subject := 116, value := 1 }] := by
  decide +kernel

/-! ### The sender line -/

/-- 5.8.5, step 2: at the start after age 8 a record with stale limit 8 goes STALE. -/
theorem test_pollPeriodStart_stale :
    let s := (freshRecord 2 .temperature 35 base).setMeas 2 { (freshRecord 2 .temperature 35 base).measRec 2 with age := 8 }
    let t := after .pollPeriodStart s
    (t.measRec 2).freshness = .stale ∧ (t.measRec 2).age = 9 ∧ t.line.listAllowed = 6 ∧ t.line.shuntDue = true := by
  decide +kernel

/-- R45, R48: the shunt poll is sent with the address in an address character and the POLL character 165. -/
theorem test_shuntPoll :
    let t := after .shuntPoll (base.setLine { base.line with shuntAddress := 40, shuntDue := true })
    t.line.sent = [296, 165] ∧ t.line.shuntDue = false ∧ t.line.state = .receiving ∧ t.line.windowTimer = some 8 := by
  decide +kernel

/-- 3.9.2, step 6: entries 8 to 31 are skipped as unused and entry 0 is polled, which leaves 27 considered. -/
theorem test_listPoll_skips_unused :
    let s := (base.setPoll 0 { base.poll 0 with address := 10 }).setLine
      { base.line with pointer := 8, considered := 2, listAllowed := 4 }
    let t := after .listPoll s
    t.line.considered = 27 ∧ t.line.pointer = 1 ∧ t.line.listAllowed = 3
      ∧ t.line.transaction = some { address := 10, source := .entry 0, received := [], check := 0 } := by decide +kernel

/-- 3.9.1: the check over 1, 133, 0, 35 is 52, and a response of these with that check character is good. -/
theorem test_responseCharacter_check :
    ([1, 133, 0, 35] : List Byte).foldl checkAfter 0 = 52
      ∧ (after (.responseCharacter 52) (shuntPollAt [1, 133, 0, 35])).line.shunt.health = .present
      ∧ (after (.responseCharacter 51) (shuntPollAt [1, 133, 0, 35])).line.shunt.lastFault = .check := by decide +kernel

/-- R49, R50: a count above 4 fails the poll, and so does a character with its ninth bit 1. -/
theorem test_responseCharacter_faults :
    (after (.responseCharacter 5) (shuntPollAt [])).line.shunt.lastFault = .count
      ∧ (after (.responseCharacter 256) (shuntPollAt [1])).line.shunt.lastFault = .addressBit := by decide +kernel

/-- 3.9.3: the failure in period k+2 makes the sender ABSENT, with its skip count at 15 and a SENDER notice to the PANEL port. -/
theorem test_responseWindowExpiry_third :
    let s := (base.setPoll 3
        { address := 23, sender := { failures := 2, health := .suspect, lastFault := .silent }, skip := 0 }).setLine
      { base.line with
        state := .receiving, windowTimer := some 0
        transaction := some { address := 23, source := .entry 3, received := [], check := 0 } }
    let t := after .responseWindowExpiry s
    t.poll 3 = { address := 23, sender := { failures := 3, health := .absent, lastFault := .silent }, skip := 15 }
      ∧ (t.port .cp0).notices = [{ kind := .sender, subject := 131, value := 1 * 256 + 2 }] ∧ (t.port .cp1).notices = [] := by
  decide +kernel

/-- R50: a gap in the response fails the poll with GAP. -/
theorem test_gapExpiry :
    let s := shuntPollAt [1]
    (after .gapExpiry (s.setLine { s.line with gapTimer := some 0 })).line.shunt
      = { failures := 1, health := .suspect, lastFault := .gap } := by decide +kernel

/-- R42: a stray character restarts the quiet time and is otherwise discarded. -/
theorem test_strayCharacter :
    after (.strayCharacter 85) (base.setLine { base.line with quiet := 1 }) = base.setLine { base.line with quiet := 2 } := by
  decide +kernel

/-! ### Measurement and account arithmetic -/

/-- 4.6.1, reading 1: a temperature of −32768 is clamped to −400 and goes to the lowest-numbered of the records that match. -/
theorem test_dispatch_clamps :
    let s := freshRecord 1 .temperature 35 (freshRecord 0 .temperature 35 base)
    let t := s.dispatch { address := 20, channel := 0, kind := .temperature, value := -32768 }
    (t.measRec 0).value = -400 ∧ t.measRec 1 = s.measRec 1 := by decide +kernel

/-- 4.6.2, steps 2 and 3: the filter of a level record in TRAVEL. -/
theorem test_receive_filters_in_travel :
    let s := freshRecord 6 .level 600 (inMode .travel base)
    let s := s.setMeas 6 { s.measRec 6 with accumulator := 4800, filtered := 600 }
    let t := s.receive 6 200
    let u := t.receive 6 950
    (t.measRec 6).accumulator = 4400 ∧ (t.measRec 6).filtered = 550 ∧ (u.measRec 6).accumulator = 4800
      ∧ (u.measRec 6).filtered = 600 := by decide +kernel

/-- 5.8.1: the products of the two reports, their totals and the capacity at 3 °C. -/
theorem test_account_report :
    let p : BatteryParams := defaultBattery
    let a : Account := { resetAccount with charge := 5400000 }
    let b : Account := { resetAccount with charge := 5399969, residue := 1500 }
    p.product (-1234) 250 = -308500 ∧ a.add (-308500) = (5399969, 1500) ∧ p.product 2000 250 = 474609
      ∧ b.add 474609 = (5400016, 6109) ∧ (b.appraise p 3).effective = 6271875 ∧ (b.appraise p 3).soc = 860 := by
  decide +kernel

/-- 5.8.2: the borrow and small charge cases, and the two cold cases. -/
theorem test_account_limits :
    let a : Account := { resetAccount with charge := 100, residue := 500 }
    a.add (-1000) = (99, 9500) ∧ defaultBattery.product 1 250 = 237 ∧ (a.appraise defaultBattery (-1)).effective = 6103125
      ∧ (a.appraise { defaultBattery with derating := 15 } (-40)).effective = 3600000 := by decide +kernel

/-- 5.8.3: the six reports of the tier walk. -/
theorem test_tier_walk :
    let p : BatteryParams := defaultBattery
    p.select 320 .conserve = .conserve ∧ p.select 295 .conserve = .essential ∧ p.select 310 .essential = .essential
      ∧ p.select 335 .essential = .conserve ∧ p.select 140 .conserve = .protect ∧ p.select 1000 .protect = .normal := by
  decide +kernel

/-! ### Entries, slots and channels -/

/-- R102: the entry is DONE with reason EXPIRED, and its channel is switched off. -/
theorem test_holdTimerExpiry :
    let s := withEntry 6 (fun e => { e with holdTimer := some 0 }) (fridgeEntry .waiting)
    let t := after (.holdTimerExpiry 6) s
    (t.entry 6).state = .done ∧ (t.entry 6).reason = .expired ∧ (t.channel 4).state = .off := by decide +kernel

/-- R125: the boundary after slot 15 begins slot 0 of the next cycle; cycle 63 is followed by 0. -/
theorem test_slotBoundary_wraps :
    let t := after .slotBoundary (base.setSched { base.sched with slot := 15, cycle := 63 })
    t.sched.slot = 0 ∧ t.sched.cycle = 0 ∧ t.sched.slotTimer = 2000 := by decide +kernel

/-- 7.7.1: a RUN verdict starts the run of entry 8 on channel 11, where the headroom holds its 100. -/
theorem test_slotBoundary_starts :
    let s := withChannel 11 (fun x => { x with desc := { x.desc with kind := .heavy, nominal := 100 } })
      (clientEntry 8 11 (.level 100) .waiting (inMode .parked base))
    let s := s.setSched
      { s.sched with decision := some { owner := some 8, channel := 11, verdict := .run, reason := .none, aside := false } }
    let t := after .slotBoundary s
    t.budget.run = some { entry := 8, channel := 11, need := 100 } ∧ (t.entry 8).state = .granted
      ∧ (t.channel 11).state = .on ∧ (t.port .cp0).notices = [{ kind := .entry, subject := 8, value := 3 * 256 }] := by
  decide +kernel

/-- R179: on a HEAVY dump valve channel an entry recommitted at LEVEL 0 loses its run at a re-evaluation in DUMPING, and its RUN verdict starts
none; in WATCH both go on. -/
theorem test_heavyValve_is_off_in_dumping :
    ∀ c ∈ [(FrostState.dumping, false), (.watch, true)],
      let s : State :=
        { heavyEntry (.level 0) .granted with
          frost := { base.frost with state := c.1 }, frostParams := { base.frostParams with valve := some 11 } }
      let run := withChannel 11 (fun x => { x with state := .on })
        (s.setBudget { base.budget with run := some { entry := 8, channel := 11, need := 100 } })
      let verdict := (withEntry 8 (fun e => { e with state := .waiting }) s).setSched
        { base.sched with decision := some { owner := some 8, channel := 11, verdict := .run, reason := .none, aside := false } }
      (run.reevaluate.channel 11).energised = c.2 ∧ (run.reevaluate.entry 8).state = (if c.2 then .granted else .waiting)
        ∧ ((after .slotBoundary verdict).channel 11).energised = c.2 := by decide +kernel

/-- 8.8.1, steps 1 and 4: the ramp of the dimmer of channel 8. -/
theorem test_rampEvent :
    let dimmer (n : Nat) : State := withChannel 8
      (fun x =>
        { x with
          desc := { kind := .dimmer, nominal := 60, trip := 100, rampRate := 20, inrushTime := 200 }
          state := .ramping, target := 90, present := n })
      base
    ((after .rampEvent (dimmer 0)).channel 8).present = 20 ∧ ((after .rampEvent (dimmer 0)).channel 8).inrush = some 200
      ∧ ((after .rampEvent (dimmer 80)).channel 8).present = 90 ∧ ((after .rampEvent (dimmer 80)).channel 8).state = .lit := by
  decide +kernel

/-- 8.8.1, step 2: at the end of a pulse period the duty in force is loaded from the shadow. -/
theorem test_pulsePeriodEnd :
    let s := withChannel 8 (fun x => { x with desc := { x.desc with kind := .dimmer }, state := .ramping, shadow := 20 }) base
    ((after .pulsePeriodEnd s).channel 8).duty = 20 := by decide +kernel

/-- 8.8.2, step 1: a sample of 95 trips the fridge, which retries after 1 s, and its entry waits. -/
theorem test_senseEvent_trips :
    let s := withChannel 4 (fun x => { x with state := .on, target := 100 }) (fridgeEntry .granted)
    let t := after (.senseEvent ([0, 0, 0, 0, 95] ++ List.replicate 11 0)) s
    (t.channel 4).state = .tripped ∧ (t.channel 4).tripCount = 1 ∧ (t.channel 4).retryTimer = some 1000
      ∧ (t.entry 6).state = .waiting ∧ (t.entry 6).reason = .tripped := by decide +kernel

/-- 8.8.2: with the inrush window open a sample of 170 does not trip, since the threshold is 180. -/
theorem test_senseEvent_inrush :
    let s := withChannel 4 (fun x => { x with state := .on, inrush := some 100 }) (fridge base)
    ((after (.senseEvent ([0, 0, 0, 0, 170] ++ List.replicate 11 0)) s).channel 4).state = .on := by decide +kernel

/-- R162, R171: the jam of an automatic return posts JAM and then JAMMED, both with the step JAMMED. -/
theorem test_jam_of_an_automatic_return :
    let s := withChannel 14 (fun x => { x with state := .driveIn }) (inMode .parked base)
    let s := s.setStep { s.step with state := .retracting, autoReturn := true, jamRun := 19 }
    let t := after (.senseEvent (List.replicate 14 0 ++ [81, 0])) s
    t.step.state = .jammed
      ∧ (t.port .cp0).notices.take 2
        = [{ kind := .motion, subject := 110, value := 1 * 256 + 6 }, { kind := .motion, subject := 110, value := 3 * 256 + 6 }] := by
  decide +kernel

/-- R156, R157: a RETRACT demand that takes over an automatic return ends it with DONE for JAMMED and its timing stopped; the drive goes on. -/
theorem test_takeover_of_an_automatic_return :
    let s := clientEntry 7 14 (.motion .extend) .granted (inMode .parked base)
    let s := s.setStep
      { s.step with
        state := .retracting, autoReturn := true, jamRun := 7, travelTimer := some 900
        operation := some { entry := 7, value := .extend } }
    let t := s.stepHand (some { entry := 2, value := .retract })
    t.step = { s.step with operation := some { entry := 2, value := .retract }, autoReturn := false, jamRun := 0, travelTimer := none }
      ∧ (t.entry 7).state = .done ∧ (t.entry 7).reason = .jammed := by decide +kernel

theorem test_inrushWindowClose :
    ((after (.inrushWindowClose 4) (withChannel 4 (fun x => { x with inrush := some 0 }) base)).channel 4).inrush = none := by
  decide +kernel

/-- 8.8.2, step 2: at the retry expiry the channel comes to rest, and the re-evaluation grants its entry again. -/
theorem test_retryExpiry :
    let s := withChannel 4 (fun x => { x with state := .tripped, tripCount := 1, retryTimer := some 0 }) (fridgeEntry .waiting)
    let t := after (.retryExpiry 4) s
    (t.channel 4).state = .on ∧ (t.channel 4).tripCount = 1 ∧ (t.entry 6).state = .granted := by decide +kernel

/-- R151: at 60 s without a trip the trip count returns to 0. -/
theorem test_cleanTimeReached :
    let s := withChannel 4 (fun x => { x with state := .on, tripCount := 3, cleanTime := 60000 }) (fridge base)
    ((after (.cleanTimeReached 4) s).channel 4).tripCount = 0 := by decide +kernel

/-! ### The step and the awning -/

/-- 9.9.1, step 2: at the dead timer's expiry the step drives in. -/
theorem test_deadTimerExpiry :
    let s := (withChannel 14 (fun x => { x with state := .dead, deadTimer := some 0, pendingDir := .inward }) base).setStep
      { base.step with state := .reversing }
    let t := after (.deadTimerExpiry .step) s
    (t.channel 14).state = .driveIn ∧ t.step.state = .retracting := by decide +kernel

/-- 9.9.1, step 3: the in-switch ends the inward drive with entry 2 DONE, COMPLETE. -/
theorem test_stepInSwitchChange :
    let s := withEntry 2
      (fun e =>
        { e with
          fields := { e.fields with channel := 14, demand := .motion .retract, cls := 0, arm := .armed }, state := .granted })
      (withChannel 14 (fun x => { x with state := .driveIn }) (inMode .travel base))
    let s := { s with
      switches := { s.switches with stepIn := false }
      step := { s.step with state := .retracting, operation := some { entry := 2, value := .retract } } }
    let t := after (.stepInSwitchChange true) s
    t.step.state = .retracted ∧ (t.channel 14).state = .dead ∧ (t.entry 2).state = .done ∧ (t.entry 2).reason = .complete := by
  decide +kernel

/-- R160: the out-switch active and the in-switch not: a step that stands is EXTENDED, outside TRAVEL. -/
theorem test_stepOutSwitchChange :
    let s := { inMode .parked base with
      switches := { base.switches with stepIn := false }, step := { base.step with state := .halted } }
    (after (.stepOutSwitchChange true) s).step.state = .extended := by decide +kernel

/-- 9.9.2, step 8: the in-switch at count 35 sets the count to 0, keeps 35 as the last drift and posts DRIFT. -/
theorem test_awningInSwitchChange :
    let s := { base with
      switches := { base.switches with awningIn := false }, awning := { base.awning with state := .out, count := 35 } }
    let t := after (.awningInSwitchChange true) s
    t.awning.state = .retracted ∧ t.awning.count = 0 ∧ t.awning.lastDrift = 35
      ∧ (t.port .cp0).notices.head? = some { kind := .motion, subject := 111, value := 7 * 256 } := by decide +kernel

/-- R163: a pulse while the awning drives out counts up; one while it drives in counts down. -/
theorem test_awningHallPulse :
    let s (st : ChannelState) : State :=
      (withChannel 15 (fun x => { x with state := st }) base).setAwning { base.awning with state := .out, count := 410 }
    (after .awningHallPulse (s .driveOut)).awning.count = 411 ∧ (after .awningHallPulse (s .driveIn)).awning.count = 409 := by
  decide +kernel

/-- R161: the first timeout of an outward drive ends the operation with TIMEOUT. -/
theorem test_stepTravelTimerExpiry :
    let s := clientEntry 7 14 (.motion .extend) .granted (withChannel 14 (fun x => { x with state := .driveOut }) (inMode .parked base))
    let s := { s with
      step := { s.step with state := .extending, operation := some { entry := 7, value := .extend }, travelTimer := some 0 } }
    let t := after .stepTravelTimerExpiry s
    (t.entry 7).state = .done ∧ (t.entry 7).reason = .timeout ∧ t.step.timeouts = 1 := by decide +kernel

/-- R162: at the jam retry's expiry the step drives in, with the retry marked USED. -/
theorem test_stepJamRetryExpiry :
    let s := base.setStep { base.step with state := .halted, jamRetry := .pending, retryTimer := some 0 }
    let t := after .stepJamRetryExpiry s
    t.step.jamRetry = .used ∧ t.step.state = .retracting ∧ (t.channel 14).state = .driveIn := by decide +kernel

/-- 9.9.2, step 5: the first stall of a retract leaves the retry PENDING for 2 s and posts STALL. -/
theorem test_awningStallTimerExpiry :
    let s := (withChannel 15 (fun x => { x with state := .driveIn }) base).setAwning
      { base.awning with state := .retracting, count := 410, target := some .home, stallTimer := some 0 }
    let t := after .awningStallTimerExpiry s
    t.awning.stallRetry = .pending ∧ t.awning.retryTimer = some 2000 ∧ t.awning.count = 410
      ∧ (t.port .cp0).notices = [{ kind := .motion, subject := 111, value := 2 * 256 + 3 }] := by decide +kernel

/-- R166: a travel timeout of an outward drive leaves the awning OUT with its entry DONE, TIMEOUT. -/
theorem test_awningTravelTimerExpiry :
    let s := clientEntry 7 15 (.motion .extend) .granted (withChannel 15 (fun x => { x with state := .driveOut }) (inMode .parked base))
    let s := { s with
      awning := { s.awning with state := .extending, operation := some { entry := 7, value := .extend }, travelTimer := some 0 } }
    let t := after .awningTravelTimerExpiry s
    (t.entry 7).state = .done ∧ (t.entry 7).reason = .timeout ∧ t.awning.state = .out := by decide +kernel

/-- 9.9.2, step 6: at the retry's expiry the awning drives in again, with the retry USED. -/
theorem test_awningStallRetryExpiry :
    let s := base.setAwning
      { base.awning with state := .retracting, count := 410, target := some .home, stallRetry := .pending, retryTimer := some 0 }
    let t := after .awningStallRetryExpiry s
    t.awning.stallRetry = .used ∧ (t.channel 15).state = .driveIn ∧ t.awning.stallTimer = some 500 := by decide +kernel

/-- R167: at its expiry the hold is clear and a WIND_CLEAR notice is posted. -/
theorem test_windHoldExpiry :
    let t := after .windHoldExpiry (base.setWind { runCount := 0, holdTimer := some 0 })
    t.windHold = false ∧ (t.port .cp0).notices.head? = some { kind := .motion, subject := 111, value := 9 * 256 } := by
  decide +kernel

/-- R178: at the drain timer's expiry DUMPING becomes DRAINED, with the cause kept. -/
theorem test_drainTimerExpiry :
    let t := after .drainTimerExpiry (base.setFrost { base.frost with state := .dumping, cause := .lastResort, drainTimer := some 0 })
    t.frost.state = .drained ∧ t.frost.cause = .lastResort ∧ t.frost.drainTimer = none := by decide +kernel

/-- R3: a frame that opens copies the status as it stands. -/
theorem test_frameOpen : ((opened .cp0 base).port .cp0).frame = some (frameOn .cp0 base) := by decide +kernel

/-! ### For each statement with hypotheses, cases that meet them, clause by clause and at the ends of the ranges -/

/-- The staging pair in some state, with a frame open. -/
def stagedIn (st : StagingState) : State :=
  opened .cp0 (withPort .cp0 (fun x => { x with staging := { x.staging with state := st } }) base)

/-- The readout pair in some state, with a frame open. -/
def readoutIn (st : ReadoutState) : State :=
  opened .cp0 (withPort .cp0 (fun x => { x with readout := { x.readout with state := st } }) base)

/-- An open frame whose NOTICE code has been received. -/
def noticeTaken : State := after (.notice .cp0 .codeReceived) (opened .cp0 base)

/-- One request waiting at one port, with the pointer at another. -/
def waitingAt (pointer p : PortId) : State :=
  (withPort p (fun x => { x with requests := [.fetch 9] }) base).setEngine { transfer := none, pointer := pointer }

theorem test_IdleStepRunsTheClock_witness :
    (base.pending = [] ∧ base.owed = false ∧ base.dueEvents = [])
      ∧ ({ base with owed := true } : State).owed = true
      ∧ (base.setLine { base.line with pollTimer := 0 }).dueEvents = [.pollPeriodStart]
      ∧ (base.setLine { base.line with pollTimer := 0 }).owed = false := by decide +kernel

theorem test_OpenStatusAndReadFrames_witness :
    ((base.port .cp0).role ≠ .disabled ∧ (base.port .cp0).frame = none)
      ∧ (((opened .cp0 base).port .cp0).role ≠ .disabled
        ∧ ((opened .cp0 base).port .cp0).frame = some (frameOn .cp0 base))
      ∧ (∀ n ∈ [0, 8],
        let st : PortStatus := { frameOn .cp0 base |>.status with noticeCount := n, judged := 7, lastRecord := 255 }
        st.noticeCount ≤ 8 ∧ st.judged ≤ 7 ∧ st.lastRecord ≤ 255)
      ∧ (let s := withPort .cp2 (fun _ => resetPort .disabled) base
        (s.port .cp2).role = .disabled ∧ (s.port .cp2).frame = none) := by decide +kernel

theorem test_StageAndCommitMoveTheStagingPair_witness :
    (∀ st ∈ ([.idle, .busy, .busyPending] : List StagingState),
        ((stagedIn st).port .cp0).role ≠ .disabled ∧ ((stagedIn st).port .cp0).frame.isSome
          ∧ ((stagedIn st).port .cp0).staging.state = st)
      ∧ 1 ≤ (1 : Byte).toNat ∧ (32 : Byte).toNat ≤ 32 ∧ (32 : Byte).toNat ≤ (List.replicate 32 (7 : Byte)).length := by
  decide +kernel

theorem test_FetchAndViewMoveTheReadoutPair_witness :
    0 < 1 ∧ ∀ st ∈ ([.idle, .busy, .ready] : List ReadoutState),
      ((readoutIn st).port .cp0).role ≠ .disabled ∧ ((readoutIn st).port .cp0).frame.isSome
        ∧ ((readoutIn st).port .cp0).readout.state = st := by decide +kernel

/-- A port that has lost no notice reads what an event posts to it (the premise of `tells`). -/
theorem test_tells_witness :
    (base.port .cp0).role ≠ .disabled ∧ (base.port .cp0).overrun = false
      ∧ ((base.obey .cp0 (.mode .restart)).port .cp0).overrun = false
      ∧ ((base.obey .cp0 (.mode .restart)).port .cp0).notices.filter (fun m => m.kind = .mode)
        = [{ kind := .mode, subject := 115, value := 0 }] := by decide +kernel

theorem test_NoticeFrameTakesTheOldest_witness :
    (((opened .cp0 base).port .cp0).role ≠ .disabled ∧ ((opened .cp0 base).port .cp0).frame = some (frameOn .cp0 base)
        ∧ (frameOn .cp0 base).notice = none)
      ∧ (noticeTaken.port .cp0).frame = some { frameOn .cp0 base with notice := some { copy := none, stillOldest := false } }
      ∧ 8 ≤ 8 ∧ 0 < 7 ∧ 7 < 8
      ∧ (∀ n ∈ [7, 8],
        let x : Port := { resetPort .panel with notices := List.replicate n { kind := .queue, subject := 124, value := 0 } }
        x.role ≠ .disabled ∧ x.notices.length = n)
      ∧ (resetPort .disabled).role = .disabled := by decide +kernel

theorem test_ShortOrUnknownFrameSetsAborted_witness :
    ((opened .cp0 base).port .cp0).role ≠ .disabled ∧ ((opened .cp0 base).port .cp0).frame = some (frameOn .cp0 base)
      ∧ (0 : Byte).toNat = 0 ∧ 32 < (33 : Byte).toNat ∧ ([5] : List Byte).length < (2 : Byte).toNat := by decide +kernel

/-- One request at each place of the search, and the numbers at the ends of the ranges of the record store (R15). -/
theorem test_TransfersAndRecordNumbers_witness :
    (base.engine.transfer = none
        ∧ (base.engine.pointer, PortId.cp0, PortId.cp1, PortId.cp2) = (PortId.cp2, PortId.cp0, PortId.cp1, PortId.cp2)
        ∧ (base.port .cp0).requests = [] ∧ (base.port .cp1).requests = [] ∧ (base.port .cp2).requests = [])
      ∧ ((waitingAt .cp2 .cp0).port .cp0).requests = [.fetch 9]
      ∧ (((waitingAt .cp0 .cp2).port .cp1).requests = [] ∧ ((waitingAt .cp0 .cp2).port .cp2).requests = [.fetch 9])
      ∧ (((waitingAt .cp1 .cp1).port .cp2).requests = [] ∧ ((waitingAt .cp1 .cp1).port .cp0).requests = []
        ∧ ((waitingAt .cp1 .cp1).port .cp1).requests = [.fetch 9])
      ∧ (∀ n ∈ [48, 63, 88, 95, 123, 125, 127, 160, 255], recordOf n = none)
      ∧ ∀ n ∈ [0, 47, 64, 87, 96, 122, 124, 128, 159], recordOf n ≠ none := by decide +kernel

theorem test_CommitCompletionJudgesTheImage_witness :
    (let s := committing .cp0 48 [] base
     s.engine.transfer = some { port := .cp0, request := .commit 48 } ∧ (s.port .cp0).staging.state = .busy
        ∧ s.judge .cp0 48 (s.port .cp0).staging.shadow = .refused .badRecord)
      ∧ (let s := withPort .cp0 (fun x => { x with staging := { x.staging with state := .busyPending, remembered := some 5 } })
          (committing .cp0 159 [1] base)
        s.judge .cp0 159 (s.port .cp0).staging.shadow = .taken .accepted (.poll 31 1)
          ∧ (s.port .cp0).staging.state = .busyPending ∧ (s.port .cp0).staging.remembered = some 5)
      ∧ (∀ a ∈ [0, 1, 254, 255],
        let s := committing .cp0 (128 + 31) [a] base
        s.engine.transfer = some { port := .cp0, request := .commit (128 + 31) } ∧ (s.port .cp0).role = .panel
          ∧ (s.port .cp0).staging.state = .busy ∧ s.mode = .setup ∧ imageByte (s.port .cp0).staging.shadow 0 = a)
      ∧ ∀ m ∈ ([.parked, .travel, .storage] : List Mode), (inMode m (committing .cp0 128 [1] base)).mode = m := by
  decide +kernel

theorem test_PanelClaimIsJudgedAndClamped_witness :
    (∀ m ∈ ([.setup, .parked] : List Mode),
        let s := fridge (inMode m base)
        (s.port .cp0).role = .panel ∧ (s.entry 4).state = .free ∧ (s.entry 47).state = .free ∧ s.mode = m
          ∧ imageByte (image [4, 1, 0, 100, 0, 1, 0, 0, 0, 0, 1, 1, 0, 1]) 1 ≠ 0
          ∧ stagedEntry s (image [4, 1, 0, 100, 0, 1, 0, 0, 0, 0, 1, 1, 0, 1]) ≠ none
          ∧ stagedEntry s (image [16, 1]) = none)
      ∧ (∀ d ∈ ([.level 100, .level 101, .setpoint 49, .setpoint 50, .setpoint 300, .setpoint 301, .motion (.position 101),
          .motion .stop] : List Demand), ({ freeFields with demand := d } : EntryFields).demand = d)
      ∧ (clampEntry .panel { freeFields with cls := 0, holdTime := 1441 }).cls = 1
      ∧ (clampEntry .remote { freeFields with cls := 1, holdTime := 1440 }).cls = 2
      ∧ (let s := fridgeEntry .waiting
        let f := (s.entry 6).fields
        let t := s.obey .cp0 (.entry 6 { f with holdTime := 1440 })
        f.arm = .armed ∧ (t.entry 6).state = .granted ∧ (t.entry 6).holdTimer = some 86400000)
      ∧ (∀ i ∈ ([4, 47] : List (Fin 48)), 4 ≤ i.1 ∧ (base.entry i).state = .free)
      ∧ (let s := (heavyEntry (.level 100) .granted).setBudget
          { base.budget with run := some { entry := 8, channel := 11, need := 100 } }
        s.holdsRun 8 = true ∧ (s.entry 8).state ≠ .free ∧ (s.obey .cp0 (.release 8)).budget.run = none
          ∧ (s.obey .cp0 (.entry 8 { (s.entry 8).fields with arm := .held })).budget.run = none
          ∧ (s.obey .cp0 (.entry 8 (s.entry 8).fields)).holdsRun 8 = true
          ∧ (s.entry 8).owner = some .cp0 ∧ (s.entry 8).owner ≠ some .cp2) := by
  decide +kernel

/-- R19 at the ends of its ranges, by image and whether the check refuses it: channel 4 is the fridge, 11 HEAVY, 3 UNUSED, 14 the step. -/
theorem test_PanelClaimIsJudgedAndClamped_fields :
    let s := fridge (heavyEntry (.level 100) .waiting)
    kindsLaw s ∧ (s.port .cp0).role = .panel ∧ (s.entry 9).state = .free ∧ s.mode ≠ .setup
      ∧ ∀ c ∈ ([([4, 1, 0, 100, 0, 3, 1, 0, 0, 0, 0, 0, 0, 1], false), ([4, 1, 0, 100, 0, 4, 1, 0, 0, 0, 0, 0, 0, 1], true),
          ([4, 1, 0, 100, 0, 3, 2, 0, 0, 0, 0, 0, 0, 1], true), ([4, 1, 0, 100, 0, 3, 1, 0, 0, 0, 0, 0, 0, 2], true),
          ([4, 4], true), ([3, 1], true), ([4, 2], true), ([14, 1], true), ([16, 1], true),
          ([13, 3], true), ([14, 3, 0, 2], false), ([14, 3, 0, 3], true), ([15, 3, 0, 3, 100], false), ([15, 3, 0, 4], true),
          ([11, 2, 255, 255, 0, 2, 1, 0, 0, 15, 1, 64, 63, 1], false), ([11, 1, 0, 1, 0, 2, 1, 0, 0, 0, 16, 1, 0, 1], false),
          ([11, 1, 0, 1, 0, 2, 1, 0, 0, 1, 16, 1, 0, 1], true), ([11, 1, 0, 1, 0, 2, 1, 0, 0, 16, 0, 1, 0, 1], true),
          ([11, 1, 0, 1, 0, 2, 1, 0, 0, 0, 1, 2, 2, 1], true), ([11, 1, 0, 1, 0, 2, 1, 0, 0, 0, 1, 3, 0, 1], true)] :
          List (List Nat × Bool)),
        imageByte (image c.1) 1 ≠ 0 ∧ ((stagedEntry s (image c.1)).isNone ↔ c.2 = true) := by
  unfold kindsLaw
  decide +kernel

theorem test_OwnedEntryRefusesOtherPorts_witness :
    let s := withEntry 4 (fun e => { e with owner := some .cp2 }) (clientEntry 4 4 (.level 1) .waiting (inMode .parked base))
    let u := clientEntry 4 4 (.level 1) .waiting (inMode .parked base)
    ((s.entry 4).state ≠ .free ∧ (s.entry 4).owner = some .cp2 ∧ s.mode ≠ .setup)
      ∧ ((s.port .cp0).role = .panel ∧ imageByte (image [4, 1]) 1 ≠ 0 ∧ imageByte (image [4, 0]) 1 = 0)
      ∧ ((u.port .cp2).role = .remote ∧ (u.entry 4).owner = some .cp0 ∧ imageByte (image [4, 2]) 1 ≤ 2)
      ∧ ((u.port .cp1).role = .vehicle ∧ imageByte (image [14, 3, 0, 1]) 1 = 3 ∧ imageByte (image [14, 3, 0, 1]) 3 = 1) := by
  decide +kernel

/-- 9.1, 10.1: a running timer shows 1 to 60 min, to its last ms and while its expiry is due (log entry 4); a stopped one shows 0, or 65535 in an
entry (11.5). -/
theorem test_minutesLeft :
    ∀ c ∈ ([(none, 0), (some 0, 1), (some 1, 1), (some 60000, 1), (some 60001, 2), (some 3600000, 60)] : List (Timer × Nat)),
      (base.setWind { runCount := 0, holdTimer := c.1 }).motionBytes[19]? = some (byteOf c.2)
        ∧ ({ base.frost with drainTimer := c.1 } : FrostControl).bytes[4]? = some (byteOf c.2)
        ∧ ({ base.entry 6 with holdTimer := c.1 } : Entry).bytes.drop 22
          = if c.1 = none then [255, 255] else [0, byteOf c.2] := by decide +kernel

theorem test_FetchCompletionFillsTheShadow_witness :
    (∀ r ∈ [128, 159, 64, 87, 160, 0, 47, 96, 111, 112, 113, 114, 115, 116, 117, 118, 119, 120, 121, 122],
        (carrying .cp0 (.fetch r) base).engine.transfer = some { port := .cp0, request := .fetch r })
      ∧ recordOf 160 = none
      ∧ (carrying .cp0 (.fetch 124) base).engine.transfer = some { port := .cp0, request := .fetch 124 } ∧ base.queue.fill = 0
      ∧ 0 < (carrying .cp0 (.fetch 124) { base with queue := { base.queue with fill := 16 } }).queue.fill := by decide +kernel

/-- The ports are CP0 PANEL and CP2 REMOTE; the vehicle is at rest, or its ignition is ON, or it moves. -/
theorem test_StorageRequestByMode_witness :
    (base.port .cp0).role = .panel ∧ (base.port .cp2).role = .remote
      ∧ (∀ m ∈ ([.setup, .parked, .travel, .storage] : List Mode), (inMode m base).mode = m)
      ∧ (∀ v ∈ [(false, false, false), (true, false, false), (true, true, false), (true, false, true)],
        let s := base.setModeCtl { base.modeCtl with configured := v.1, ignition := v.2.1, moving := v.2.2 }
        s.mode = .setup ∧ (s.modeCtl.configured, s.modeCtl.ignition, s.modeCtl.moving) = v)
      ∧ (let s := base.setModeCtl { base.modeCtl with configured := true, ignition := true }
        s.judgeRequest (s.port .cp0).role .parked = .taken .travel .diverted)
      ∧ (inMode .parked base).judgeRequest (base.port .cp2).role .storage = .taken .storage .changed
      ∧ (inMode .storage base).judgeRequest (base.port .cp2).role .storage = .taken .storage .unchanged := by decide +kernel

/-- Out of SETUP with a step EXTENDED and an awning OUT, by the wind: a hold, a WIND record that is NEVER, and neither; into TRAVEL with the
ignition ON, where a LEVEL record is seeded unless it is STALE. -/
theorem test_StorageRequestByMode_leaving :
    let at' (ignition : Bool) (hold : Timer) (wind : Option (Fin 24)) : State :=
      let s := (freshRecord 6 .level 50 base).setModeCtl { base.modeCtl with configured := true, ignition := ignition }
      { s with
        switches := { stepIn := false, stepOut := true, awningIn := false }, motionParams := { s.motionParams with wind := wind }
        step := { s.step with state := .extended }, awning := { s.awning with state := .out }, wind := { s.wind with holdTimer := hold } }
    let left (ignition : Bool) (hold : Timer) (wind : Option (Fin 24)) : State := (at' ignition hold wind).obey .cp0 (.mode .parked)
    (∀ c ∈ ([(some 5, none, true), (none, some 7, true), (none, some 6, true), (none, none, false)] : List (Timer × Option (Fin 24) × Bool)),
        ((left false c.1 c.2.1).entry 3).fields = (if c.2.2 then retractFields 15 else freeFields))
      ∧ (let t := left true none none
        t.mode = .travel ∧ (t.entry 2).fields = retractFields 14 ∧ t.step.state ≠ .extended
          ∧ (t.measRec 6).filtered = 50 ∧ (t.measRec 6).accumulator = 400)
      ∧ ((at' true none none).measRec 6).filtered = 0
      ∧ (let m := (base.measRec 6)
        let x := { m with desc := { m.desc with kind := .level }, value := 50, freshness := .stale }
        refiltered .parked .travel x = x ∧ refiltered .travel .parked x = x
          ∧ (refiltered .travel .parked { x with freshness := .fresh }).filtered = 50) := by decide +kernel

/-- The ignition goes ON, and the vehicle moves, at a step that is EXTENDED and an awning that is OUT; in SETUP nothing is armed. -/
theorem test_VehicleRecordSetsModeAndStaleness_witness :
    let at' (m : Mode) : State :=
      let s := inMode m base
      { s with
        switches := { stepIn := false, stepOut := true, awningIn := false }
        step := { s.step with state := .extended }, awning := { s.awning with state := .out } }
    (∀ m ∈ ([.parked, .storage] : List Mode),
        (at' m).mode = m ∧ (at' m).step.state ≠ .retracted ∧ (at' m).awning.state ≠ .retracted
          ∧ (let t := (at' m).obey .cp1 (.vehicle true false)
            t.mode = .travel ∧ t.step.state ≠ .extended ∧ (t.entry 2).fields = retractFields 14 ∧ (t.entry 3).state = .free)
          ∧ (let t := (at' m).obey .cp1 (.vehicle false true)
            (t.entry 2).fields = retractFields 14 ∧ (t.entry 3).fields = retractFields 15))
      ∧ (at' .travel).mode ≠ .setup ∧ base.step.state = .retracted ∧ base.awning.state = .retracted
      ∧ ((at' .setup).obey .cp1 (.vehicle true true)).mode = .setup
      ∧ (((at' .setup).obey .cp1 (.vehicle true true)).entry 3).state = .free
      ∧ (((freshRecord 6 .level 50 (at' .travel)).obey .cp1 (.vehicle false false)).measRec 6).filtered = 50
      ∧ (((freshRecord 6 .level 50 (at' .parked)).obey .cp1 (.vehicle true false)).measRec 6).accumulator = 400
      ∧ ∀ ignition ∈ [true, false],
        let s := base.setModeCtl { base.modeCtl with ignition := ignition, vehicleTimer := some 0 }
        s.modeCtl.vehicleTimer.isSome ∧ s.modeCtl.stale = false ∧ s.modeCtl.ignition = ignition := by decide +kernel

/-- The laws that the machines of a RESTART rest on hold of a step that extends out of TRAVEL and a LEVEL record that is FRESH. -/
theorem test_RestartFreesAndKeeps_witness :
    let s := freshRecord 6 .level 50 (withChannel 14 (fun x => { x with state := .driveOut }) (inMode .travel base))
    let s := s.setStep { s.step with state := .extending }
    let t := s.obey .cp0 (.mode .restart)
    (kindsLaw s ∧ heavyLaw s ∧ internalLaw s) ∧ s.mode = .travel ∧ (s.measRec 6).filtered = 0 ∧ (t.measRec 6).filtered = 50
      ∧ t.step.state = .retracted ∧ (t.channel 14).state = .dead := by
  refine ⟨⟨by unfold kindsLaw; decide +kernel, ⟨?_, fun _ h => nomatch h⟩, ?_⟩, by decide +kernel⟩
  · intro c h
    exact absurd h (by revert c; decide +kernel)
  · exact ⟨fun h => absurd rfl h, fun h => absurd rfl h, fun h => absurd rfl h, fun h => absurd rfl h⟩

/-- A record bound and FRESH at age 7 with stale limit 8 does not go stale; the designated CURRENT record at age 8 does. -/
theorem test_PollPeriodStartAgesTheRecords_witness :
    (let s := (freshRecord 3 .level 10 base).setMeas 3 { (freshRecord 3 .level 10 base).measRec 3 with age := 7 }
     ∀ k : Fin 24, (s.measRec k).desc.address = 0 ∨ (s.measRec k).freshness ≠ .fresh
      ∨ ((s.measRec k).age < 240 ∧ (s.measRec k).age + 1 ≤ (s.measRec k).desc.staleLimit))
    ∧ (let s := { freshRecord 3 .current 10 base with battery := { base.battery with current := some 3 } }
      let s := s.setMeas 3 { s.measRec 3 with age := 8 }
      let t := after .pollPeriodStart s
      s.battery.current = some 3 ∧ (s.measRec 3).desc.kind = .current ∧ (s.measRec 3).freshness = .fresh
        ∧ (t.measRec 3).freshness = .stale ∧ t.account.hold = true) := by decide +kernel

/-- Record `k` FRESH at the last age before it goes stale. -/
def lapsing (k : Fin 24) (kind : MeasKind) (v : Int) (s : State) : State :=
  (freshRecord k kind v s).setMeas k { (freshRecord k kind v s).measRec k with age := 8 }

/-- The cabin, the tank, a HEADROOM and the fresh level record go stale, one by one, with a consumer of each that this changes. -/
theorem test_PollPeriodStartAgesTheRecords_consumers :
    let heat (i : Fin 48) (s : State) : State :=
      withEntry i (fun e => { e with calling := true })
        (withChannel 3 (fun x => { x with desc := { x.desc with kind := .heavy } }) (clientEntry i 3 (.setpoint 200) .waiting s))
    (let s := heat 7 (lapsing 5 .temperature 200 base)
     let s := s.setSched { s.sched with cabin := some 5 }
     let t := after .pollPeriodStart s
     (s.entry 7).calling = true ∧ (t.measRec 5).freshness = .stale ∧ (t.entry 7).calling = false)
      ∧ (let s := heat 0 (lapsing 4 .temperature 200 base)
        let s := { s with frostParams := { s.frostParams with tank := some 4 }, frost := { s.frost with state := .heating } }
        let t := after .pollPeriodStart s
        (s.entry 0).calling = true ∧ (s.entry 0).state ≠ .free ∧ (t.measRec 4).freshness = .stale
          ∧ (t.frost.state, t.frost.cause) = (.dumping, .noProbe))
      ∧ (let s := lapsing 8 .headroom 100 base
        s.recomputeBudget.budget.sourceSum = 100 ∧ (after .pollPeriodStart s).budget.sourceSum = 0
          ∧ ((after .pollPeriodStart s).measRec 8).freshness = .stale)
      ∧ (let s := lapsing 6 .level 500 (fridgeEntry .granted)
        let s := s.setMeas 6 { s.measRec 6 with filtered := 500 }
        let s := { s with frostParams := { s.frostParams with fresh := some 6, pump := some 4 } }
        let t := after .pollPeriodStart s
        (t.channel 4).desc.kind.steady = true ∧ t.wins 6 = true ∧ t.owed = false ∧ (t.entry 6).state = .blocked) := by
  decide +kernel

theorem test_PollsAreSent_witness :
    (base.line.state = .idle ∧ base.line.transaction = none ∧ base.line.quiet = 0)
      ∧ (∀ a ∈ [0, 1, 254], (base.setLine { base.line with shuntDue := true, shuntAddress := a }).line.shuntAddress = a)
      ∧ (let s := (base.setPoll 0 { base.poll 0 with address := 10 }).setLine { base.line with listAllowed := 1, considered := 31 }
        s.line.shuntDue = false ∧ 0 < s.line.listAllowed ∧ s.line.considered < 32 ∧ (s.poll s.line.pointer).address ≠ 0
          ∧ (s.poll s.line.pointer).sender.health ≠ .absent)
      ∧ (let s := (base.setPoll 0 { address := 10, sender := { failures := 3, health := .absent, lastFault := .gap }, skip := 1 }).setLine
          { base.line with listAllowed := 6 }
        (s.poll s.line.pointer).sender.health = .absent ∧ (s.poll s.line.pointer).skip = 1)
      ∧ (∀ e ∈ [(0, 0), (10, 2), (10, 15)],
        let s := (base.setPoll 0 { address := e.1, sender := { failures := 3, health := .absent, lastFault := .gap }, skip := e.2 }).setLine
          { base.line with listAllowed := 6 }
        s.line.shuntDue = false ∧ s.line.considered < 32 ∧ (s.poll s.line.pointer).address = e.1
          ∧ (e.1 = 0 ∨ 1 < (s.poll s.line.pointer).skip))
      ∧ 32 ≤ (base.setLine { base.line with listAllowed := 6, considered := 32 }).line.considered ∧ base.line.listAllowed = 0
      ∧ (shuntPollAt []).line.state ≠ .idle ∧ (shuntPollAt []).line.transaction.isSome
      ∧ 0 < (base.setLine { base.line with shuntDue := true, shuntAddress := 40, quiet := 1 }).line.quiet := by decide +kernel

theorem test_ShuntPollRunsToItsEnd_witness :
    ((shuntPollAt []).line.transaction = some { address := 40, source := .shunt, received := [], check := 0 }
        ∧ (4 : Byte).toNat ≤ 4 ∧ 4 < (5 : Byte).toNat)
      ∧ ([1, 133, 0] : List Byte) = 1 :: [133, 0] ∧ ([133, 0] : List Byte).length < 3 * (1 : Byte).toNat
      ∧ (shuntPollAt [0]).line.shuntAddress = 40
      ∧ (shuntPollAt [0]).line.transaction
        = some { address := 40, source := .shunt, received := [0], check := checkAfter 0 0 }
      ∧ (256 : LineChar).msb = true ∧ ([133, 0, 35] : List Byte).length = 3 * (1 : Byte).toNat
      ∧ ((shuntPollAt []).setLine { (shuntPollAt []).line with windowTimer := some 0 }).line.windowTimer.isSome
      ∧ ((shuntPollAt [1]).setLine { (shuntPollAt [1]).line with gapTimer := some 0 }).line.gapTimer.isSome
      ∧ (let q := (shuntRecords base).battery
        q.current = some 0 ∧ q.voltage = some 1 ∧ q.temperature = some 2 ∧ q.interval = some 3)
      ∧ base.battery.current = none := by decide +kernel

/-- A good shunt poll with readings of −12.34 A, 13.2 V, 3 °C and 250 ms: its report takes 1,234 · 250 units of charge. -/
theorem test_ShuntPollRunsToItsEnd_reports :
    let body : List Byte := [160, 251, 46, 176, 51, 144, 128, 0, 30, 192, 0, 250]
    let s := shuntRecords (shuntPollAt (4 :: body))
    let x : Transaction :=
      { address := 40, source := .shunt, received := 4 :: body, check := (4 :: body).foldl checkAfter 0 }
    let t := after (.responseCharacter (BitVec.ofNat 9 x.check.toNat)) s
    s.line.transaction = some x ∧ body.length = 3 * (4 : Byte).toNat ∧ x.source = .shunt ∧ s.line.shuntAddress = x.address
      ∧ (t.measRec 0).value = -1234 ∧ (t.measRec 1).value = 13200 ∧ (t.measRec 2).value = 30 ∧ (t.measRec 3).value = 250
      ∧ t.account.reports = 1 ∧ t.account.temperature = 3 ∧ t.account.charge = 3599969 ∧ t.account.residue = 1500 := by
  decide +kernel

theorem test_FailedListPollCountsAgainstItsSender_witness :
    (∀ n ∈ [0, 1, 2, 3],
        let h : SenderHealth := { failures := n, health := healthOf n, lastFault := .none }
        h.failures ≤ 3 ∧ (h.health = .present ↔ h.failures = 0) ∧ (h.health = .absent ↔ h.failures = 3))
      ∧ (256 : LineChar).msb = true ∧ 4 < (5 : Byte).toNat ∧ ([1, 2, 3] : List Byte).length = 3 * (1 : Byte).toNat
      ∧ (base.poll 31).address ≠ 23
      ∧ (let s := (base.setPoll 31 { base.poll 31 with address := 23 }).setLine
          { base.line with
            windowTimer := some 0, gapTimer := some 0
            transaction := some { address := 23, source := .entry 31, received := [], check := 0 } }
        (s.poll 31).address = 23 ∧ s.line.windowTimer.isSome ∧ s.line.gapTimer.isSome ∧ s.line.transaction.isSome) := by
  decide +kernel

theorem test_StrayCharacterIsDiscarded_witness :
    base.line.transaction = none ∧ base.line.quiet = 0 ∧ 0 < (base.setLine { base.line with quiet := 1 }).line.quiet := by
  decide +kernel

theorem test_CheckDetectsOneWrongCharacter_witness : (0 : Byte) ≠ 128 := by decide

/-- The ends of the queue's window: addresses 30 and 60 are in, 29 and 61 are out; and a queue that holds none, and one that holds one. -/
theorem test_DispatchOffersTheReading_witness :
    let s := (freshRecord 2 .level 10 base).setLine { base.line with queueEnable := true, windowLow := 30, windowHigh := 60 }
    let fits (r : Reading) (k : Fin 24) : Prop :=
      (s.measRec k).desc.address = r.address ∧ (s.measRec k).desc.channel = r.channel ∧ (s.measRec k).desc.kind = r.kind
    (fits { address := 20, channel := 0, kind := .level, value := 1 } 2
        ∧ ∀ l : Fin 24, l < 2 → ¬ fits { address := 20, channel := 0, kind := .level, value := 1 } l)
      ∧ (∀ a ∈ [29, 30, 60, 61], ∀ k : Fin 24, ¬ fits { address := a, channel := 0, kind := .level, value := 1 } k)
      ∧ s.line.queueEnable = true ∧ s.line.windowLow ≤ 30 ∧ 60 ≤ s.line.windowHigh
      ∧ s.queue.fill = 0 ∧ 0 < (s.enqueue { address := 30, channel := 0, kind := .level, value := 1 }).queue.fill := by decide +kernel

/-- A descriptor that rebinds record 66, and one that keeps its binding and changes the stale limit alone. -/
theorem test_ReceivingRecordIsUpdated_witness :
    let s := freshRecord 2 .level 10 base
    let m := s.measRec 2
    let rebound : MeasDescriptor := { m.desc with channel := 1 }
    let kept : MeasDescriptor := { m.desc with staleLimit := 240 }
    rebound.channel ≠ m.desc.channel ∧ ((s.obey .cp0 (.meas 2 rebound)).measRec 2).freshness = .never
      ∧ (kept.address = m.desc.address ∧ kept.channel = m.desc.channel ∧ kept.kind = m.desc.kind)
      ∧ ((s.obey .cp0 (.meas 2 kept)).measRec 2).freshness = .fresh := by decide +kernel

/-- R64: an arrival at a HEADROOM, a cabin, a fresh level and an undesignated record; 195 and 205 are the ends of the kept range of a setpoint of
200, and 50 is the dry level of reset. -/
theorem test_ReceivingRecordIsUpdated_consumers :
    (((freshRecord 2 .headroom 0 base).receive 2 300).budget.sourceSum = 300)
      ∧ (∀ c ∈ ([(194, false, true), (195, true, true), (195, false, false), (204, true, true), (205, true, false)] :
          List (Int × Bool × Bool)),
        let s := withEntry 8 (fun e => { e with calling := c.2.1 }) (freshRecord 9 .temperature 0 (heavyEntry (.setpoint 200) .waiting))
        ((({ s with sched := { s.sched with cabin := some 9 } } : State).receive 9 c.1).entry 8).calling = c.2.2)
      ∧ (∀ c ∈ ([(50, true), (51, false)] : List (Int × Bool)),
        let s := freshRecord 6 .level 0 (fridgeEntry .waiting)
        let s :=
          { s with frost := { s.frost with state := .off }, frostParams := { s.frostParams with fresh := some 6, pump := some 4 } }
        let t := s.receive 6 c.1
        t.owed = false ∧ t.wins 6 = true ∧ (t.channel 4).desc.kind = .switch ∧ t.mode ≠ .storage ∧ t.frostParams.valve ≠ some 4
          ∧ (t.measRec 6).desc.kind = .level ∧ (t.measRec 6).freshness = .fresh ∧ ((t.entry 6).state = .blocked ↔ c.2 = true))
      ∧ ((freshRecord 2 .headroom 0 base).receive 2 1).budget.evaluations = 1
      ∧ ((freshRecord 2 .level 0 base).receive 2 1).budget.evaluations = 0 := by decide +kernel

/-- The result of a commit of CP0, a PANEL port, in SETUP. -/
def committed (n : Nat) (bytes : List Nat) : Result := (base.judge .cp0 n (image bytes)).result

/-- The records of the configuration and of the account at the ends of their ranges, taken from the tables of 3.2, 4.1, 5.2, 7.1, 8.1, 9.1 and 10.1
and laid out by 11.5: each is taken as it stands and refused with BAD_FIELD where one byte of it is replaced. The bytes 13 to 16 of record 114 are
the thresholds 1000, 999 and 998, and its bytes 18 to 23 the allowances 2000, 1999, 1998 and 1997. -/
theorem test_configurationCommits_fields :
    ∀ row ∈ ([
      (64, [254, 7, 6, 240], [(0, 255), (1, 8), (2, 7), (3, 0), (3, 241)]),
      (96, [4, 250, 0, 251, 1, 0, 0], [(0, 5), (1, 251), (3, 250), (4, 0), (4, 101), (5, 8)]),
      (110, [5, 40, 1, 44, 100, 7, 208], [(0, 4), (3, 45), (6, 209)]),
      (112, [3, 232], [(1, 233)]),
      (114, [7, 208, 0, 15, 0, 1, 127, 255, 2, 88, 0, 0, 40, 250, 62, 127, 152, 100, 250, 31, 63, 231, 124, 208, 7, 208, 15, 160,
          64, 87, 65, 86],
        [(1, 209), (2, 199), (3, 16), (5, 0), (6, 128), (9, 89), (12, 0), (12, 41), (13, 251), (15, 143), (16, 156),
          (17, 101), (18, 251), (25, 209), (26, 0), (27, 161), (28, 255), (29, 88), (30, 64), (31, 63)]),
      (114, [0, 10, 200, 0, 255, 255, 0, 0, 0, 10, 0, 0, 1, 0, 128, 16, 0, 0, 0, 0, 0, 0, 0, 0, 0, 0, 0, 250, 64, 87, 65, 86],
        [(1, 9), (9, 9), (14, 64), (15, 0), (27, 249)]),
      (118, [100, 0, 1, 1, 0, 100, 1, 0, 10, 64, 0, 0, 1, 0, 0, 1], [(2, 0), (5, 99), (11, 1)]),
      (118, [5, 1, 44, 10, 15, 160, 20, 200, 90, 255, 2, 88, 10, 2, 88, 60],
        [(0, 4), (0, 101), (2, 45), (3, 0), (3, 11), (5, 161), (6, 0), (6, 21), (7, 201), (8, 9), (8, 91), (9, 88), (9, 63),
          (11, 89), (12, 0), (12, 11), (14, 87), (14, 89), (15, 0), (15, 61)]),
      (120, [1, 64, 87, 255, 255, 0, 13, 255, 254, 112, 0, 10, 0, 9, 3, 82, 32, 60, 15, 1, 3, 232, 3, 232],
        [(0, 2), (1, 63), (4, 88), (5, 14), (6, 0), (7, 13), (9, 111), (11, 9), (13, 10), (15, 83), (16, 0), (16, 33), (17, 0),
          (17, 61), (18, 16), (19, 0), (19, 2), (21, 233), (23, 233)]),
      (120, [0, 255, 255, 255, 255, 255, 255, 255, 3, 82, 0, 0, 255, 255, 0, 1, 1, 1, 0, 16, 0, 0, 0, 0], [(12, 0), (15, 0), (18, 1)]),
      (121, [8, 87], [(0, 3), (0, 0), (0, 16), (1, 88), (1, 63)]),
      (122, [254, 1, 254, 254], [(0, 255), (1, 2), (2, 0), (2, 255), (3, 255), (3, 253)]),
      (128, [254], [(0, 255)]) ] : List (Nat × List Nat × List (Nat × Nat))),
      committed row.1 row.2.1 = .accepted ∧ ∀ change ∈ row.2.2, committed row.1 (row.2.1.set change.1 change.2) = .badField := by
  decide +kernel

/-- The efficiency, the thresholds, the allowances and the designations that a commit of the battery parameters by CP0 stores. -/
def packedFields (bytes : List Nat) : List Nat × List (Option (Fin 24)) :=
  match base.judge .cp0 114 (image bytes) with
  | .taken .accepted (.battery q) =>
    ([q.efficiency, q.t1, q.t2, q.t3, q.allowNormal, q.allowConserve, q.allowEssential, q.allowProtect],
      [q.current, q.voltage, q.temperature, q.interval])
  | _ => ([], [])

/-- R16, R17: these commits by the role of the port and by the mode, the role checked first; and the fields read from packed bytes. -/
theorem test_configurationCommits_admission :
    (∀ n ∈ [64, 87, 96, 111, 112, 114, 118, 120, 121, 122, 128, 159], ∀ m ∈ ([.setup, .parked, .travel, .storage] : List Mode),
        (∀ r ∈ ([.vehicle, .remote, .disabled] : List Role),
          ((withPort .cp0 (fun x => { x with role := r }) (inMode m base)).judge .cp0 n (image [255])).result = .notPermitted)
        ∧ (((inMode m base).judge .cp0 n (image [255, 255])).result = .wrongMode
          ↔ ¬ (m = .setup ∨ (m = .parked ∧ (n = 112 ∨ 128 ≤ n)))))
      ∧ packedFields
          [7, 208, 0, 15, 0, 1, 127, 255, 2, 88, 0, 0, 40, 250, 62, 127, 152, 100, 250, 31, 63, 231, 124, 208, 7, 208, 15, 160, 64, 87,
            65, 86]
        = ([256, 1000, 999, 998, 2000, 1999, 1998, 1997], [some 0, some 23, some 1, some 22]) := by
  decide +kernel

/-- R16, R17, R19: the records with a role check of their own, CP0 being PANEL, CP1 VEHICLE and CP2 REMOTE. -/
theorem test_otherCommits_admission :
    let judged (p : PortId) (n : Nat) (bytes : List Nat) : Result := ((inMode .travel base).judge p n (image bytes)).result
    (judged .cp2 20 [0, 3], judged .cp1 20 [0, 1], judged .cp1 20 [14, 3, 0, 0]) = (.notPermitted, .notPermitted, .notPermitted)
      ∧ (judged .cp2 115 [4], judged .cp1 115 [1], judged .cp0 115 [2]) = (.notPermitted, .notPermitted, .badField)
      ∧ (judged .cp0 115 [3], judged .cp0 115 [4]) = (.wrongMode, .accepted)
      ∧ (judged .cp0 116 [1, 1], judged .cp1 116 [2, 0], judged .cp1 116 [1, 1]) = (.notPermitted, .badField, .accepted)
      ∧ (judged .cp2 119 [1], judged .cp0 119 [0]) = (.notPermitted, .badField) := by decide +kernel

theorem test_ReadingQueueIsFirstInFirstOut_witness :
    ∀ n ∈ [0, 1, 15, 16],
      let q : ReadingQueue := { resetQueue with fill := n, get := 3, put := ⟨(3 + n) % 16, Nat.mod_lt _ (by decide)⟩ }
      q.fill ≤ 16 ∧ q.put.1 = (q.get.1 + q.fill) % 16 ∧ q.fill = n := by decide +kernel

/-- The voltage and the current at the ends of the tail condition, a tail one short of the tail time, and an account that nearly empties. -/
theorem test_ChargeProductAndDivision_witness :
    ((0 : Int) ≤ 0 ∧ (0 : Int) < 1 ∧ (-32768 : Int) ≤ -32768 ∧ (32767 : Int) ≤ 32767 ∧ defaultBattery.efficiency ≤ 256)
      ∧ (let a : Account := { resetAccount with charge := 100, residue := 500 }
        a.residue ≤ 9999 ∧ (-500 : Int) ≤ 0 ∧ (-(-500 : Int)) ≤ a.residue ∧ (a.residue : Int) < -(-501))
      ∧ (let p := defaultBattery
        let report (current voltage interval : Int) : ShuntReport :=
          { current := current, voltage := voltage, temperature := 250, interval := interval }
        let before (charge tail : Nat) : State :=
          base.setAccount { base.account with charge := charge, tail := tail, lowVoltage := 0 }
        let left (s : State) (r : ShuntReport) : Account := (s.shuntReport r).account
        (p.fullVoltage = 14200 ∧ p.tailCurrent = 200 ∧ p.tailTime = 120 ∧ p.maxInterval = 1000 ∧ p.protectVoltage = 11600)
          ∧ (left (before 3600000 119999) (report 200 14200 1)).synced = true
          ∧ (left (before 3600000 119998) (report 200 14200 1)).tail = 119999
          ∧ (left (before 3600000 119999) (report 201 14200 1)).tail = 0
          ∧ (left (before 0 0) (report (-1) 11599 1)).lowVoltage = 1 ∧ (left (before 0 0) (report (-1) 11600 1)).lowVoltage = 0
          ∧ (left (before 7200000 0) (report 100 13000 1000)).charge = 7200000
          ∧ (left (before 3600000 0) (report 0 13000 1)).tier = (before 3600000 0).account.tier
          ∧ (before 3600000 0).account.hold = false) := by decide +kernel

/-- The account temperature is that of the designated record, or 25 where none is designated or it has never received a reading. -/
theorem test_CapacityFactorAndStateOfCharge_witness :
    ((25 : Int) ≤ 25 ∧ (512 : Int) ≤ 1024 - defaultBattery.derating * (25 - (-60)))
      ∧ (1024 : Int) - defaultBattery.derating * (25 - (-61)) < 512 ∧ 360000 ≤ 10 * 36000
      ∧ base.battery.temperature = none ∧ base.recordTemperature = 25
      ∧ (∀ f ∈ ([(.never, 25), (.fresh, 3), (.stale, 3)] : List (Freshness × Int)),
        let s := { freshRecord 5 .temperature 30 base with battery := { base.battery with temperature := some 5 } }
        let s := s.setMeas 5 { s.measRec 5 with freshness := f.1 }
        s.battery.temperature = some 5 ∧ (s.measRec 5).desc.kind = .temperature ∧ s.recordTemperature = f.2)
      ∧ (let s := { freshRecord 5 .level 30 base with battery := { base.battery with temperature := some 5 } }
        (s.measRec 5).desc.kind ≠ .temperature ∧ s.recordTemperature = 25) := by decide +kernel

/-- R79, R93, R94: the notices of a report that clears hold, empties or fills the account and changes the tier, and of a seed, in their order.
The tier of reset is CONSERVE, and a seed of 600 keeps it while the account is not synced. -/
theorem test_account_notices :
    let told (t : State) : List (NoticeKind × Nat) := (t.port .cp0).notices.map fun n => (n.kind, n.value)
    let report (current voltage : Int) : ShuntReport := { current := current, voltage := voltage, temperature := 250, interval := 1 }
    let held (charge tail : Nat) : State :=
      base.setAccount { base.account with hold := true, charge := charge, tail := tail }
    told ((held 3600000 119999).shuntReport (report 200 14200)) = [(.account, 4), (.account, 2), (.tier, 1 * 256 + 0)]
      ∧ told ((held 1 0).shuntReport (report (-10001) 12000)) = [(.account, 4), (.account, 1), (.tier, 1 * 256 + 3)]
      ∧ told ((held 3600000 0).shuntReport (report 0 12000)) = [(.account, 4)]
      ∧ told (base.obey .cp0 (.seed 600)) = [(.account, 5)]
      ∧ told (base.obey .cp0 (.seed 149)) = [(.account, 5), (.tier, 1 * 256 + 3)]
      ∧ told (base.obey .cp0 (.battery defaultBattery)) = []
      ∧ told (base.obey .cp0 (.battery { defaultBattery with t1 := 600, t2 := 501 })) = [(.tier, 1 * 256 + 2)] := by decide +kernel

/-- 500, 300 and 150 are the thresholds of reset, and 30 its hysteresis. A report that carries no charge keeps the tier of CONSERVE, and an
account below the protect voltage for the protect count leaves it. -/
theorem test_TierSelection_witness :
    let p := defaultBattery
    (p.t1 ≤ 500 ∧ 499 < p.t1 ∧ p.t2 ≤ 300 ∧ 299 < p.t2 ∧ p.t3 ≤ 150 ∧ 149 < p.t3)
      ∧ (Tier.conserve.code ≤ (p.target 299).code ∧ (p.target 335).code < Tier.essential.code)
      ∧ p.above .essential = some (.conserve, 300) ∧ p.select 330 .essential = .conserve ∧ p.select 329 .essential = .essential
      ∧ (∀ n ∈ [(6, Tier.conserve), (7, .protect)],
        let s := base.setAccount { base.account with lowVoltage := n.1 }
        let t := s.shuntReport { current := -1, voltage := 11599, temperature := 250, interval := 1 }
        s.account.tier = .conserve ∧ t.account.tier = n.2) := by
  decide +kernel

theorem test_BudgetHasThreePartsAndEntriesNeeds_witness :
    ∀ k ∈ ([.switch, .valve, .dimmer, .heavy, .bridge] : List ChannelKind),
      ({ defaultGeneral with kind := k } : ChannelDescriptor).kind = k := by decide

theorem test_ReevaluationSettlesTheEntries_witness :
    (∀ st ∈ ([.free, .held, .done] : List EntryState), ((fridgeEntry st).entry 6).state = st)
      ∧ (let t := (fridgeEntry .waiting).reevaluate
        (t.entry 6).state = .granted ∧ (t.entry 6).fields.channel = 4) := by decide +kernel

/-- The fridge at level 100 and 0, a dimmer at the level that fits, an EXTEND on the step, a channel that is TRIPPED and one with no entry. -/
theorem test_GrantsReachTheBank_witness :
    kindsLaw base ∧ (base.reevaluate.owed = false ∧ ∀ i, (base.reevaluate.entry i).fields.channel = 4 → (base.reevaluate.entry i).state ≠ .granted)
      ∧ (∀ l ∈ [(100, ChannelState.on, 100), (0, .off, 0)],
        let t := (clientEntry 6 4 (.level l.1) .waiting (fridge (inMode .parked base))).reevaluate
        t.owed = false ∧ (t.channel 4).desc.kind = .switch ∧ (t.entry 6).state = .granted ∧ (t.entry 6).fields.channel = 4
          ∧ (t.channel 4).state = l.2.1 ∧ (t.row 4).level = l.2.2)
      ∧ (let t := (dimmerEntry 600 .normal).reevaluate
        t.owed = false ∧ (t.entry 9).state = .granted ∧ (t.channel 8).desc.kind = .dimmer ∧ (t.entry 9).grantedLevel = some 95
          ∧ (t.channel 8).target = 95 ∧ (t.channel 8).state = .ramping)
      ∧ (let t := (clientEntry 7 14 (.motion .extend) .waiting (inMode .parked base)).reevaluate
        t.owed = false ∧ (t.entry 7).state = .granted ∧ (t.channel 14).state = .driveOut ∧ t.step.state = .extending
          ∧ t.step.operation = some { entry := 7, value := .extend })
      ∧ (∀ st ∈ ([.tripped, .lockedOut] : List ChannelState),
        let s := withChannel 4 (fun x => { x with state := st }) (fridgeEntry .waiting)
        s.reevaluate.owed = false ∧ (s.channel 4).state = st) := by
  refine ⟨by unfold kindsLaw; decide, ?_⟩
  decide +kernel

theorem test_WinnersAreCheckedInOrder_witness :
    (let s := clientEntry 7 4 (.level 100) .waiting (fridgeEntry .waiting)
     (s.entry 7).state.isCandidate = true ∧ (s.channel 4).desc.kind.steady = true ∧ s.wins 7 = false)
      ∧ (let s := clientEntry 7 14 (.motion .extend) .waiting (inMode .travel base)
        s.wins 7 = true ∧ s.exempt 7 = false ∧ (s.blocking 7).isSome)
      ∧ (let s := (fridgeEntry .waiting).setAccount { base.account with tier := .protect }
        s.wins 6 = true ∧ s.exempt 6 = false ∧ s.protectedGrant 6 = false ∧ s.blocking 6 = none
          ∧ s.account.tier.sheds (s.entry 6).fields.cls = true)
      ∧ (∀ st ∈ ([.tripped, .lockedOut, .off] : List ChannelState),
        let s := withChannel 4 (fun x => { x with state := st }) (fridgeEntry .waiting)
        let z := withChannel 14 (fun x => { x with state := st }) (clientEntry 7 14 (.motion .retract) .waiting s)
        s.wins 6 = true ∧ s.exempt 6 = false ∧ s.blocking 6 = none ∧ s.account.tier.sheds (s.entry 6).fields.cls = false
          ∧ (s.channel 4).state = st ∧ z.wins 7 = true ∧ z.exempt 7 = true ∧ (z.channel 14).state = st)
      ∧ heavyLaw (fridgeEntry .waiting) ∧ (fridgeEntry .waiting).reevaluate.owed = false := by
  refine ⟨by decide +kernel, by decide +kernel, by decide +kernel, by decide +kernel, ⟨?_, fun _ h => nomatch h⟩, by decide +kernel⟩
  intro c h
  exact absurd h (by revert c; decide +kernel)

/-- Fit and no fit: a switch of nominal 60 at a budget of 60 and 59, beside a retract of 40 that alone is above B, and a dimmer at level 95. -/
theorem test_WinnersAreCheckedInOrder_fit :
    (∀ b ∈ [(59, EntryState.shed), (60, .granted)],
        ((fridgeEntry .waiting).setBudget { base.budget with budget := b.1 } |>.settleSteady.entry 6).state = b.2)
      ∧ (let s := clientEntry 7 14 (.motion .retract) .waiting (fridgeEntry .waiting)
        let t := (s.setBudget { s.budget with budget := 39 }).settleSteady
        t.budget.budget < t.budget.exemptSum ∧ (t.entry 6).state = .shed ∧ (t.entry 6).reason = .noBudget)
      ∧ ∀ b ∈ [(8, EntryState.shed, none), (9, .granted, some 15), (56, .granted, some 85), (57, .granted, some 95)],
        let s := dimmerEntry b.1 .normal
        let f := s.settleSteady.entry 9
        s.wins 9 = true ∧ f.state = b.2.1 ∧ f.grantedLevel = b.2.2 := by decide +kernel

/-- Each condition of the table of R115, on the bridges, the pump and the valve channel, at the ends of its range; and an entry on a HEAVY pump
channel that is blocked and unblocked. -/
theorem test_WinnersAreCheckedInOrder_blocking :
    let on (c : Fin 16) (d : Demand) (m : Mode) (s : State) : State := clientEntry 7 c d .waiting (inMode m s)
    let water (st : FrostState) (fresh grey : Nat) (f : Freshness) (s : State) : State :=
      let s := freshRecord 6 .level fresh (freshRecord 7 .level grey s)
      let s := (s.setMeas 6 { s.measRec 6 with filtered := fresh, freshness := f }).setMeas 7 { s.measRec 7 with filtered := grey }
      { s with
        frost := { s.frost with state := st }
        frostParams := { s.frostParams with fresh := some 6, grey := some 7, pump := some 4, valve := some 1 } }
    let heavyPump (fresh : Nat) (st : EntryState) : State :=
      withEntry 7 (fun e => { e with state := st })
        (withChannel 4 (fun x => { x with desc := { x.desc with kind := .heavy } })
          (water .idle fresh 0 .fresh (clientEntry 7 4 (.level 100) .waiting (inMode .parked base))))
    kindsLaw base
      ∧ (let s := (fridgeEntry .waiting)
        let t := withEntry 6 (fun e => { e with fields := { e.fields with cls := 2 } }) (inMode .storage s)
        t.blocking 6 = some .mode ∧ (inMode .storage s).blocking 6 = none ∧ s.blocking 6 = none)
      ∧ (on 5 (.level 100) .parked base).blocking 7 = some .interlock
      ∧ (on 4 (.setpoint 200) .parked (fridge base)).blocking 7 = some .interlock
      ∧ (on 14 (.motion .extend) .travel base).blocking 7 = some .interlock
      ∧ (on 14 (.motion .extend) .parked (base.setModeCtl { base.modeCtl with ignition := true })).blocking 7 = some .interlock
      ∧ (on 14 (.motion .extend) .parked base).blocking 7 = none ∧ (on 14 (.motion .retract) .travel base).blocking 7 = none
      ∧ (∀ v ∈ ([.extend, .position 50] : List MotionValue),
        (on 15 (.motion v) .parked (base.setWind { runCount := 0, holdTimer := some 1 })).blocking 7 = some .interlock
          ∧ (on 15 (.motion v) .parked { base with motionParams := { base.motionParams with wind := some 9 } }).blocking 7 = some .interlock
          ∧ (on 15 (.motion v) .parked base).blocking 7 = none)
      ∧ (∀ c ∈ ([(.idle, 51, 949, .fresh, none), (.idle, 50, 0, .fresh, some .interlock), (.idle, 51, 950, .fresh, some .interlock),
          (.dumping, 51, 0, .fresh, some .interlock), (.drained, 51, 0, .fresh, some .interlock), (.idle, 51, 0, .stale, some .sensor),
          (.idle, 50, 0, .stale, some .interlock)] : List (FrostState × Nat × Nat × Freshness × Option Reason)),
        (on 4 (.level 100) .parked (water c.1 c.2.1 c.2.2.1 c.2.2.2.1 (fridge base))).blocking 7 = c.2.2.2.2)
      ∧ (∀ c ∈ ([(.drained, .level 1, some .interlock), (.drained, .level 0, none), (.off, .level 1, some .interlock), (.heating, .level 1, none)] :
          List (FrostState × Demand × Option Reason)),
        let s := water c.1 51 0 .fresh (withChannel 1 (fun x => { x with desc := { x.desc with kind := .valve } }) base)
        (on 1 c.2.1 .parked s).blocking 7 = c.2.2)
      ∧ (((heavyPump 50 .waiting).descOf 7).kind = .heavy ∧ ((heavyPump 50 .waiting).entry 7).state.isCandidate = true
        ∧ ((heavyPump 50 .waiting).reevaluate.entry 7).reason = .interlock ∧ (heavyPump 50 .waiting).budget.run = none
        ∧ ((heavyPump 51 .blocked).reevaluate.entry 7).state = .waiting) := by
  refine ⟨by unfold kindsLaw; decide, ?_⟩
  decide +kernel

theorem test_HoldTimerExpiryEndsTheEntry_witness :
    ((withEntry 6 (fun e => { e with holdTimer := some 0 }) (fridgeEntry .granted)).entry 6).holdTimer.isSome := by decide +kernel

/-- A commit that changes the cabin designation and one that does not; entry 8 is judged by the first, and entry 9 is not. -/
theorem test_SlotBoundaryAdvances_witness :
    (∀ slot ∈ [14, 15], ∀ cycle ∈ [62, 63],
        let s := base.setSched { base.sched with slot := slot, cycle := cycle }
        s.sched.slot = slot ∧ s.sched.cycle = cycle ∧ s.sched.decision = none)
      ∧ (let s := heavyEntry (.setpoint 200) .waiting
        (some 9 : Option (Fin 24)) ≠ s.sched.cabin ∧ s.sched.cabin = none ∧ 4 ≤ (8 : Fin 48).1 ∧ (s.entry 8).state ≠ .free
          ∧ (s.entry 8).fields.demand = .setpoint 200 ∧ (s.descOf 8).kind = .heavy ∧ (s.entry 9).state = .free) := by
  decide +kernel

theorem test_SlotOwnerAndVerdict_witness :
    (∀ st ∈ ([.held, .blocked, .waiting] : List EntryState),
        ((heavyEntry (.level 100) st).entry 8).state = st
          ∧ (((heavyEntry (.level 100) st).decideSlot 0 0).aside = true ↔ st = .held ∨ st = .blocked))
      ∧ ((heavyEntry (.level 100) .waiting).decideSlot 1 0).owner = none
      ∧ (heavyEntry (.level 100) .waiting).slotOwner 0 0 = some 8 ∧ (heavyEntry (.level 100) .waiting).slotOwner 1 0 = none
      ∧ ((heavyEntry (.setpoint 200) .waiting).entry 8).calling = false
      ∧ ((withEntry 8 (fun e => { e with calling := true }) (heavyEntry (.setpoint 200) .waiting)).entry 8).calling = true
      ∧ ((heavyEntry (.level 0) .waiting).entry 8).fields.demand = .level 0
      ∧ Tier.essential.sheds 2 = true ∧ Tier.conserve.sheds 2 = false
      ∧ ∀ c ∈ ([.tripped, .lockedOut, .off] : List ChannelState),
        ((withChannel 11 (fun x => { x with state := c }) (heavyEntry (.level 1) .waiting)).channel 11).state = c := by
  decide +kernel

/-- A RUN verdict of entry 8, at a headroom that holds its need of 100 and one below, in each standing and channel state; an IDLE verdict of each
reason; and a run of it that its slot continues, interrupts or ends. -/
theorem test_RunsStartAndEndAtBoundaries_witness :
    (∀ h ∈ ([100, 99] : List Int),
      let s := ((heavyEntry (.level 100) .waiting).setBudget { base.budget with headroom := h }).setSched
        { base.sched with decision := some { owner := some 8, channel := 11, verdict := .run, reason := .none, aside := false } }
      s.budget.run = none ∧ s.sched.decision.isSome ∧ (s.entry 8).state = .waiting ∧ (s.entry 8).fields.channel = 11
        ∧ (s.channel 11).desc.kind = .heavy ∧ (s.channel 11).state = .off ∧ s.budget.headroom = h)
      ∧ (let s := ((heavyEntry (.level 100) .granted).setBudget
            { base.budget with run := some { entry := 8, channel := 11, need := 100 } }).setSched { base.sched with slot := 15 }
        s.budget.run = some { entry := 8, channel := 11, need := 100 } ∧ 15 ≤ s.sched.slot ∧ s.sched.decision = none
          ∧ (s.entry 8).state = .granted)
      ∧ base.frostParams.valve = none
      ∧ (∀ st ∈ ([.waiting, .granted, .shed, .free, .held, .done, .blocked] : List EntryState), ∀ x ∈ ([.off, .tripped, .lockedOut] : List ChannelState),
        let s := withChannel 11 (fun y => { y with state := x }) (heavyEntry (.level 100) st)
        (s.entry 8).state = st ∧ (s.channel 11).state = x ∧ s.budget.run = none)
      ∧ (∀ d ∈ ([(.run, .none, false), (.idle, .tier, false), (.idle, .none, false), (.idle, .notCalling, false), (.idle, .tripped, false),
          (.idle, .lockedOut, false), (.idle, .interlock, true)] : List (SlotVerdict × Reason × Bool)), ∀ slot ∈ [14, 15],
        let s := ((withChannel 11 (fun x => { x with state := .on }) (heavyEntry (.level 100) .granted)).setBudget
          { base.budget with run := some { entry := 8, channel := 11, need := 100 } }).setSched
          { base.sched with
            slot := slot, decision := some { owner := some 8, channel := 11, verdict := d.1, reason := d.2.1, aside := d.2.2 } }
        s.budget.run = some { entry := 8, channel := 11, need := 100 } ∧ (s.entry 8).state = .granted ∧ (s.entry 8).fields.channel = 11
          ∧ (s.channel 11).state = .on ∧ s.sched.slot = slot ∧ (s.entry 8).fields.persistence = .standing
          ∧ (s.boundaryWork.budget.run.isSome ↔ d.1 = .run)
          ∧ (s.boundaryWork.entry 0).starvation = (s.entry 0).starvation ∧ (s.boundaryWork.entry 8).state ≠ .done) := by decide +kernel

/-- R130, step 6: the boundary into slot 0 at which a ONCE run ends, at which the starvation of entry 0 changes, and at which both happen; each
re-evaluation counts one. A ONCE run that owns slot 0 with IDLE for TIER is interrupted and not counted (log entry 47). -/
theorem test_RunsStartAndEndAtBoundaries_informs :
    let at15 (d : Option SlotDecision) (s : State) : State := s.setSched { s.sched with slot := 15, decision := d }
    let running (s : State) : State :=
      (withEntry 8 (fun e => { e with fields := { e.fields with persistence := .once } })
        (withChannel 11 (fun x => { x with state := .on }) s)).setBudget
        { s.budget with run := some { entry := 8, channel := 11, need := 100 }, headroom := 0 }
    let heating (s : State) : State :=
      withEntry 0 (fun e => { e with fields := heatFields defaultFrostParams 10, state := .waiting })
        (withChannel 10 (fun x => { x with desc := { x.desc with kind := .heavy, nominal := 100 } }) (s.setBudget { s.budget with headroom := 0 }))
    let drop : SlotDecision := { owner := some 0, channel := 10, verdict := .run, reason := .none, aside := false }
    let shed : SlotDecision := { owner := some 8, channel := 11, verdict := .idle, reason := .tier, aside := false }
    let outcome (s : State) : EntryState × Nat × Nat :=
      let t := s.boundary
      ((t.entry 8).state, (t.entry 0).starvation, t.budget.evaluations)
    outcome (at15 none (running (heavyEntry (.level 100) .granted))) = (.done, 0, 1)
      ∧ outcome (at15 (some drop) (heating (heavyEntry (.level 100) .held))) = (.held, 1, 1)
      ∧ outcome (at15 (some drop) (heating (running (heavyEntry (.level 100) .granted)))) = (.done, 1, 2)
      ∧ (let s := at15 (some shed) (running (heavyEntry (.level 100) .granted))
        outcome s = (.shed, 0, 0) ∧ (s.boundary.entry 8).runs = 0 ∧ (s.boundary.entry 8).starvation = 1) := by decide +kernel

theorem test_CallingFollowsTheThermostat_witness :
    let s := (freshRecord 9 .temperature 195 (heavyEntry (.setpoint 200) .waiting)).setSched { base.sched with cabin := some 9 }
    ((s.entry 8).state ≠ .free ∧ (s.entry 8).fields.demand = .setpoint 200 ∧ (s.descOf 8).kind = .heavy ∧ s.sched.cabin = some 9)
      ∧ ((s.measRec 9).desc.kind = .temperature ∧ (s.measRec 9).freshness = .fresh ∧ (s.measRec 9).value = 195)
      ∧ ((s.setMeas 9 { s.measRec 9 with freshness := .stale }).measRec 9).freshness ≠ .fresh := by decide +kernel

theorem test_ChannelTimersAct_witness :
    ((withChannel 8 (fun x => { x with desc := { x.desc with kind := .dimmer }, state := .ramping }) base).channel 8).state = .ramping
      ∧ ((withChannel 4 (fun x => { x with state := .on }) base).channel 4).energised = true
      ∧ ((withChannel 4 (fun x => { x with state := .tripped, retryTimer := some 0 }) base).channel 4).retryTimer.isSome
      ∧ (∀ st ∈ ([.on, .tripped, .lockedOut] : List ChannelState),
        let s := withChannel 4 (fun x => { x with state := st, tripCount := 2 }) (fridgeEntry .granted)
        let d := (s.channel 4).desc
        ((s.obey .cp0 (.channel 4 { d with nominal := 70 })).channel 4).tripCount = 2
          ∧ ((s.obey .cp0 (.channel 4 { d with kind := .dimmer })).channel 4).tripCount = 0) := by decide +kernel

/-- A sample of 90 at a trip current of 90 is no trip, and one of 91 is; 180 and 181 while the inrush window is open. The third trip starts the
retry timer and the fourth locks out. The jam current of reset is 80 and its jam time 2, so that the 20th sample above 80 in a row is a jam. -/
theorem test_SenseEventSamplesAndTrips_witness :
    let on (inrush : Timer) (n : Nat) : State :=
      (withChannel 4 (fun x => { x with state := .on, inrush := inrush }) (fridge base)).setRow 4 { base.row 4 with sensed := n }
    let samples (n : Nat) : List Nat := [0, 0, 0, 0, n] ++ List.replicate 11 0
    let stepping (st : StepState) (drive : ChannelState) (run : Nat) (auto : Bool) (retry : RetryMark) : State :=
      let s := (withChannel 14 (fun x => { x with state := drive }) (clientEntry 7 14 (.motion .retract) .granted base))
      s.setStep
        { s.step with
          state := st, operation := some { entry := 7, value := .retract }, autoReturn := auto, jamRetry := retry, jamRun := run }
    ((samples 90).length = 16 ∧ ((on none 0).channel 14).energised = false
        ∧ ∀ c : Fin 16, ((on none 0).channel c).energised = true →
          min ((samples 90).getD c.1 0) 1000
            ≤ (if ((on none 0).channel c).inrush.isSome then 2 * ((on none 0).channel c).desc.trip
              else ((on none 0).channel c).desc.trip))
      ∧ (∀ c ∈ ([(none, 90, false), (none, 91, true), (some 1, 180, false), (some 1, 181, true)] : List (Timer × Nat × Bool)),
        let s := on c.1 c.2.1
        (s.channel 4).energised = true ∧ (s.row 4).sensed = c.2.1
          ∧ ((if (s.channel 4).inrush.isSome then 2 * (s.channel 4).desc.trip else (s.channel 4).desc.trip) < (s.row 4).sensed
            ↔ c.2.2 = true))
      ∧ ((on none 0).channel 5).energised = false
      ∧ (∀ n ∈ [(2, ChannelState.tripped, some 16000), (3, .lockedOut, none)],
        let s := withChannel 4 (fun x => { x with tripCount := n.1 }) (on none 91)
        let x := (s.trip 4).channel 4
        min 4 ((s.channel 4).tripCount + 1) = n.1 + 1 ∧ x.state = n.2.1 ∧ x.retryTimer = n.2.2
          ∧ ((s.trip 4).clearLockout 4 = s.trip 4 ↔ x.state ≠ .lockedOut))
      ∧ (∀ run ∈ [18, 19],
        let s := stepping .extending .driveOut run false .none
        s.owed = false ∧ s.motionParams.stepJamCurrent = 80 ∧ s.motionParams.stepJamTime * 10 = 20 ∧ s.step.jamRun = run
          ∧ (s.channel 14).energised = true ∧ (s.channel 14).desc.trip = 100)
      ∧ (∀ c ∈ ([(.extending, .driveOut, false, .none), (.retracting, .driveIn, false, .none),
          (.retracting, .driveIn, true, .none), (.retracting, .driveIn, false, .used)] :
          List (StepState × ChannelState × Bool × RetryMark)),
        let s := stepping c.1 c.2.1 19 c.2.2.1 c.2.2.2
        (s.step.state, (s.channel 14).state, s.step.autoReturn, s.step.jamRetry) = c
          ∧ s.step.operation = some { entry := 7, value := .retract } ∧ (s.entry 7).state = .granted
          ∧ (s.entry 7).fields.channel = 14) := by decide +kernel

theorem test_DeadTimerExpiryDrivesOrStops_witness :
    ∀ d ∈ ([.none, .outward, .inward] : List Direction),
      (let s := (withChannel 14 (fun x => { x with state := .dead, pendingDir := d }) base).setStep { base.step with state := .reversing }
       s.owed = false ∧ (s.channel 14).state = .dead ∧ (s.channel 14).pendingDir = d ∧ s.step.state = .reversing)
      ∧ (∀ g ∈ ([none, some .home, some (.count (if d = .outward then 6 else 4))] : List (Option AwningTarget)),
        let s := (withChannel 15 (fun x => { x with state := .dead, pendingDir := d }) base).setAwning
          { base.awning with state := .reversing, count := 5, target := g }
        s.owed = false ∧ (s.channel 15).state = .dead ∧ (s.channel 15).pendingDir = d ∧ s.awning.state = .reversing
          ∧ s.awning.target = g) := by decide +kernel

/-- The step with an operation of entry 2 in each state of motion, and standing with none; the second switch becomes active from each side. -/
theorem test_StepSwitchChanges_witness :
    let moving (st : StepState) (d : Direction) (retry : RetryMark) (auto : Bool) : State :=
      let s := withChannel 14 (fun x => { x with pendingDir := d })
        (withEntry 2 (fun e => { e with fields := retractFields 14, state := .granted }) base)
      { s with
        switches := { s.switches with stepIn := false }
        step := { s.step with state := st, operation := some { entry := 2, value := .retract }, jamRetry := retry, autoReturn := auto } }
    (base.owed = false ∧ base.step.operation = none ∧ base.step.jamRetry ≠ .pending ∧ base.step.state = .retracted
        ∧ base.switches.stepIn ≠ false ∧ base.switches.stepOut = false)
      ∧ (∀ c ∈ ([(.retracting, .none, .none, true), (.retracting, .none, .used, false), (.reversing, .inward, .none, false),
          (.reversing, .inward, .none, true), (.halted, .none, .pending, false), (.extending, .none, .none, false),
          (.reversing, .outward, .none, false)] : List (StepState × Direction × RetryMark × Bool)),
        let s := moving c.1 c.2.1 c.2.2.1 c.2.2.2
        (s.step.state, (s.channel 14).pendingDir, s.step.jamRetry, s.step.autoReturn) = c ∧ s.owed = false
          ∧ s.step.operation = some { entry := 2, value := .retract } ∧ (s.entry 2).state = .granted
          ∧ (s.entry 2).fields.channel = 14 ∧ s.switches.stepIn = false ∧ s.switches.stepOut = false)
      ∧ (∀ inSwitch ∈ [true, false],
        let sw : Switches := { base.switches with stepIn := !inSwitch, stepOut := inSwitch }
        let s : State := { base with switches := sw, step := { base.step with state := if inSwitch then .extended else .retracted } }
        let m : State := { moving .retracting .none .none false with switches := sw }
        s.step.state ≠ .fault ∧ s.switches.stepIn = !inSwitch ∧ s.switches.stepOut = inSwitch ∧ s.owed = false
          ∧ s.step.operation = none ∧ s.step.jamRetry ≠ .pending ∧ (s.channel 14).state = .stopped
          ∧ m.step.state ≠ .fault ∧ m.step.operation.isSome ∧ (m.entry 2).state = .granted
          ∧ (after (if inSwitch then .stepInSwitchChange true else .stepOutSwitchChange true) m).step.state = .fault) := by
  decide +kernel

/-- The awning at rest, with an operation of entry 3 in each state of motion, and at counts one short of the target and at it. -/
theorem test_AwningSwitchAndPulses_witness :
    let moving (st : AwningState) (d : Direction) : State :=
      let s := withChannel 15 (fun x => { x with pendingDir := d })
        (withEntry 3 (fun e => { e with fields := retractFields 15, state := .granted }) base)
      { s with
        switches := { s.switches with awningIn := false }
        awning := { s.awning with state := st, operation := some { entry := 3, value := .retract }, count := 21 } }
    let aimed (drive : ChannelState) (n goal : Nat) : State :=
      let s := withChannel 15 (fun x => { x with state := drive }) (moving .extending .none)
      s.setAwning { s.awning with count := n, target := some (.count goal) }
    (let s := { base with switches := { base.switches with awningIn := false }, awning := { base.awning with state := .out } }
     s.owed = false ∧ s.awning.operation = none ∧ s.awning.stallRetry ≠ .pending ∧ s.awning.state = .out
        ∧ s.switches.awningIn = false)
      ∧ (base.awning.state = .retracted ∧ base.switches.awningIn = true ∧ (base.channel 15).state = .stopped)
      ∧ (∀ c ∈ ([(.retracting, .none), (.reversing, .inward), (.extending, .none), (.jammed, .none), (.fault, .none),
          (.reversing, .outward)] : List (AwningState × Direction)),
        let s := moving c.1 c.2
        (s.awning.state, (s.channel 15).pendingDir) = c ∧ s.owed = false ∧ s.switches.awningIn = false
          ∧ s.awning.operation = some { entry := 3, value := .retract } ∧ (s.entry 3).state = .granted
          ∧ (s.entry 3).fields.channel = 15 ∧ s.motionParams.syncSlack < s.awning.count)
      ∧ (∀ n ∈ [(8, false), (9, true)],
        let s := aimed .driveOut n.1 10
        (s.channel 15).state = .driveOut ∧ s.awning.target = some (.count 10)
          ∧ (10 ≤ min s.motionParams.pmax (s.awning.count + 1) ↔ n.2 = true))
      ∧ (∀ n ∈ [(12, false), (11, true)],
        let s := aimed .driveIn n.1 10
        (s.channel 15).state = .driveIn ∧ s.awning.target = some (.count 10)
          ∧ (min s.motionParams.pmax (s.awning.count - 1) ≤ 10 ↔ n.2 = true))
      ∧ (let s := base.setAwning { base.awning with count := 400, lastDrift := 500, target := some (.count 500) }
        let q := { s.motionParams with pmax := 450 }
        let u : State := { s with motionParams := q, awning := { s.awning with target := some (.count 450) } }
        s.owed = false ∧ u.awningBlocked = s.awningBlocked ∧ s.windKnown = .unwatched ∧ (s.obey .cp0 (.motionParams q)).awning = u.awning) := by
  decide +kernel

/-- R168: a commit that makes the wind UNWATCHED from KNOWN, with the verdict ALLOWED in both, makes no re-evaluation; one that makes it UNKNOWN
from UNWATCHED changes the verdict, and one that makes it UNKNOWN from KNOWN under an active hold does not: each of these makes one. -/
theorem test_windDesignation_informs :
    let s := { freshRecord 7 .wind 0 base with motionParams := { base.motionParams with wind := some 7 } }
    let commit (w : Option (Fin 24)) (s : State) : State := s.obey .cp0 (.motionParams { s.motionParams with wind := w })
    s.windKnown = .known ∧ (commit none s).windKnown = .unwatched ∧ (commit none s).budget.evaluations = s.budget.evaluations
      ∧ (commit (some 8) base).budget.evaluations = base.budget.evaluations + 1
      ∧ (let h := s.setWind { runCount := 2, holdTimer := some 5 }
        (commit (some 8) h).windKnown = .unknown ∧ (commit (some 8) h).awningBlocked = h.awningBlocked
          ∧ (commit (some 8) h).budget.evaluations = h.budget.evaluations + 1
          ∧ (commit none h).wind = { runCount := 0, holdTimer := some 5 }) := by decide +kernel

/-- A demand of entry 7 at the step in each state that it meets, with the bridge as that state has it; each of the values; an operation of entry 2
that an automatic return, a grant lost and a trip meet. -/
theorem test_StepDemandsMove_witness :
    let at' (st : StepState) (x : ChannelState) (retry : RetryMark) (o : Option Operation) : State :=
      let s := withChannel 14 (fun y => { y with state := x }) (clientEntry 7 14 (.motion .extend) .granted (inMode .parked base))
      let s := withEntry 2 (fun e => { e with fields := retractFields 14, state := .granted }) s
      s.setStep { s.step with state := st, jamRetry := retry, operation := o }
    (∀ v ∈ ([.extend, .retract, .stop] : List MotionValue),
      ∀ c ∈ ([(.retracted, .stopped), (.retracted, .dead), (.retracted, .tripped), (.extended, .stopped), (.halted, .stopped),
          (.extending, .driveOut), (.retracting, .driveIn), (.reversing, .dead), (.jammed, .stopped), (.fault, .stopped)] :
          List (StepState × ChannelState)),
        let s := at' c.1 c.2 .none none
        (s.step.state, (s.channel 14).state) = c ∧ s.step.operation ≠ some { entry := 7, value := v } ∧ s.step.autoReturn = false
          ∧ (s.entry 7).state = .granted ∧ (s.entry 7).fields.channel = 14)
      ∧ (at' .retracted .stopped .none none).stepHand (some { entry := 7, value := .extend })
        = stepDriven (at' .retracted .stopped .none none) { entry := 7, value := .extend } .outward
      ∧ (let s := at' .halted .stopped .pending (some { entry := 2, value := .retract })
        s.step.jamRetry = .pending ∧ (s.stepHand (some { entry := 7, value := .retract })).step.jamRetry = .pending
          ∧ (s.stepHand none).step.operation = none)
      ∧ (let s := at' .retracting .driveIn .used (some { entry := 2, value := .retract })
        (s.trip 14).owed = false ∧ ((s.trip 14).entry 2).reason = .jammed ∧ (s.trip 14).step.operation = none)
      ∧ ({ entry := 2, value := .retract } : Operation) ≠ { entry := 7, value := .extend } := by decide +kernel

/-- A demand of entry 7 at the awning, likewise, at a count of 600 of 1200: POSITION 25, 50 and 75 are below, at and above it. -/
theorem test_AwningDemandsMove_witness :
    let at' (st : AwningState) (x : ChannelState) (retry : RetryMark) (o : Option Operation) : State :=
      let s := withChannel 15 (fun y => { y with state := x }) (clientEntry 7 15 (.motion .extend) .granted (inMode .parked base))
      let s := withEntry 3 (fun e => { e with fields := retractFields 15, state := .granted }) s
      s.setAwning { s.awning with state := st, stallRetry := retry, operation := o, count := 600 }
    (∀ v ∈ ([.extend, .retract, .stop, .position 25, .position 50, .position 75] : List MotionValue),
      ∀ c ∈ ([(.retracted, .stopped, .none), (.out, .stopped, .none), (.out, .dead, .none), (.out, .tripped, .none),
          (.extending, .driveOut, .none), (.retracting, .driveIn, .none), (.retracting, .driveIn, .used), (.retracting, .stopped, .pending),
          (.reversing, .dead, .none), (.jammed, .stopped, .none), (.fault, .stopped, .none)] :
          List (AwningState × ChannelState × RetryMark)),
        let s := at' c.1 c.2.1 c.2.2 none
        (s.awning.state, (s.channel 15).state, s.awning.stallRetry) = c ∧ s.awning.operation ≠ some { entry := 7, value := v }
          ∧ (s.entry 7).state = .granted ∧ (s.entry 7).fields.channel = 15)
      ∧ (base.motionParams.pmax * 25 + 50) / 100 = 300 ∧ (base.motionParams.pmax * 75 + 50) / 100 = 900
      ∧ (at' .out .stopped .none none).awningHand (some { entry := 7, value := .position 75 })
        = awningDriven (at' .out .stopped .none none) { entry := 7, value := .position 75 } false (.count 900) .outward
      ∧ (let s := at' .retracting .driveIn .used (some { entry := 3, value := .retract })
        (s.awningHand none).awning.operation = none ∧ (s.trip 15).owed = false ∧ ((s.trip 15).entry 3).reason = .jammed) := by
  decide +kernel

theorem test_MotionTimersEndTheOperation_witness :
    (let s := { clientEntry 7 14 (.motion .extend) .granted base with
        step := { base.step with travelTimer := some 0, operation := some { entry := 7, value := .extend } } }
     s.step.travelTimer.isSome ∧ s.step.operation = some { entry := 7, value := .extend } ∧ (s.entry 7).state = .granted
        ∧ (s.entry 7).fields.channel = 14 ∧ s.step.timeouts = 0
        ∧ s.stepTimeout.step.state = .halted
        ∧ (s.setStep { s.step with timeouts := 1 }).stepTimeout.step.state = .fault)
      ∧ ∀ st ∈ ([.extending, .retracting] : List AwningState),
        let s := { clientEntry 7 15 (.motion .extend) .granted base with
          awning :=
            { base.awning with
              state := st, stallRetry := .used, stallTimer := some 0, travelTimer := some 0
              operation := some { entry := 7, value := .extend } } }
        s.awning.operation = some { entry := 7, value := .extend } ∧ (s.entry 7).state = .granted
          ∧ (s.entry 7).fields.channel = 15 ∧ s.awning.stallTimer.isSome ∧ s.awning.travelTimer.isSome
          ∧ (s.awning.state = .extending ∨ (s.awning.state = .retracting ∧ s.awning.stallRetry = .used)) := by decide +kernel

theorem test_RetriesWaitAndDriveIn_witness :
    (let s := (withChannel 15 (fun x => { x with state := .driveIn }) base).setAwning
        { base.awning with state := .retracting, stallTimer := some 0 }
     s.owed = false ∧ s.awning.stallTimer.isSome ∧ s.awning.state = .retracting ∧ s.awning.stallRetry = .none
        ∧ (s.channel 15).state = .driveIn)
      ∧ (let s := base.setStep { base.step with state := .halted, jamRetry := .pending, retryTimer := some 0 }
        s.step.retryTimer.isSome ∧ s.step.state = .halted ∧ s.step.jamRetry = .pending ∧ (s.channel 14).state = .stopped)
      ∧ (let s := base.setAwning
          { base.awning with state := .retracting, stallRetry := .pending, retryTimer := some 0, target := some .home }
        s.awning.retryTimer.isSome ∧ s.awning.state = .retracting ∧ s.awning.stallRetry = .pending
          ∧ (s.channel 15).state = .stopped ∧ s.awning.target = some .home) := by decide +kernel

/-- Wind readings at the gust limit and the wind limit and one below each, with the run count at and below the wind count. -/
theorem test_WindHoldExpiryClearsTheHold_witness :
    (let s := (inMode .travel base).setWind { runCount := 0, holdTimer := some 0 }
     s.wind.holdTimer.isSome ∧ s.owed = false ∧ s.mode = .travel)
      ∧ (let p := base.motionParams
        let at' (run : Nat) (hold : Timer) : State :=
          ({ freshRecord 7 .wind 0 base with motionParams := { p with wind := some 7 } } : State).setWind
            { runCount := run, holdTimer := hold }
        let q := (at' 0 none).motionParams
        q.wind = some 7 ∧ ((at' 0 none).measRec 7).desc.kind = .wind ∧ base.motionParams.wind ≠ some 7
          ∧ ((at' 0 none).receive 7 q.gustLimit).windHold = true ∧ ((at' 0 none).receive 7 (q.gustLimit - 1)).windHold = false
          ∧ ((at' (q.windCount - 1) none).receive 7 q.windLimit).windHold = true
          ∧ ((at' 0 (some 5)).receive 7 q.windLimit).wind.holdTimer = some (q.windHoldTime * 60000)
          ∧ ((at' 2 (some 5)).receive 7 (q.windLimit - 1)).wind = { runCount := 0, holdTimer := some 5 }
          ∧ (at' 0 none).mode = .setup ∧ (inMode .parked (at' 0 none)).mode ≠ .setup
          ∧ ({ base.awning with state := .out } : AwningControl).state ≠ .retracted) := by decide +kernel

/-- The designated WIND record goes stale with the awning OUT and RETRACTED, and another record does. -/
theorem test_WindHoldExpiryClearsTheHold_stale :
    let at' (designated : Option (Fin 24)) (st : AwningState) : State :=
      let s := lapsing 7 .wind 0 (inMode .parked base)
      { s with
        motionParams := { s.motionParams with wind := designated }, awning := { s.awning with state := st }
        wind := { runCount := 2, holdTimer := some 5 } }
    let t (designated : Option (Fin 24)) (st : AwningState) : State := after .pollPeriodStart (at' designated st)
    ((t (some 7) .out).measRec 7).freshness = .stale ∧ (t (some 7) .out).wind = { runCount := 0, holdTimer := some 5 }
      ∧ ((t (some 7) .out).entry 3).fields = retractFields 15 ∧ ((t (some 7) .retracted).entry 3).state = .free
      ∧ (t none .out).wind = { runCount := 2, holdTimer := some 5 } ∧ ((t none .out).entry 3).state = .free := by decide +kernel

/-- The dump temperature of reset is 20, so a tank of 10 dumps; the judgement of it posts one notice, and one that changes nothing none. -/
theorem test_FrostDumpsAndDrains_witness :
    (∀ st ∈ ([.watch, .heating] : List FrostState),
      let s := { freshRecord 4 .temperature 10 base with
        frostParams := { base.frostParams with tank := some 4 }, frost := { base.frost with state := st } }
      s.frost.state = st ∧ s.frostParams.tank = some 4 ∧ (s.measRec 4).desc.kind = .temperature
        ∧ (s.measRec 4).freshness = .fresh ∧ (s.measRec 4).value ≤ s.frostParams.dumpTemp - 10 ∧ s.freshDry = false
        ∧ (s.judgeFrost st false).frost.state = .dumping
        ∧ ((s.judgeFrost st false).port .cp0).notices
          = [{ kind := .frost, subject := 119, value := st.code * 256 + FrostState.dumping.code }])
      ∧ (base.judgeFrost .drained false).frost.state = .drained
      ∧ ({ freshRecord 6 .level 50 base with frostParams := { base.frostParams with fresh := some 6 } } : State).freshDry = true
      ∧ (let s := base.setFrost { base.frost with state := .dumping, drainTimer := some 0 }
        s.frost.state = .dumping ∧ s.frost.drainTimer.isSome)
      ∧ (let q (enable : Bool) : FrostParams := { base.frostParams with enable := enable, heater := some 11, valve := some 1 }
        let after (st : FrostState) (enable : Bool) : State :=
          (base.setFrost { base.frost with state := st }).obey .cp0 (.frostParams (q enable))
        (after .heating false).frost.state = .off ∧ (after .off true).frost.state = .drained
          ∧ (after .drained true).frost.state = .drained) := by
  decide +kernel

/-- Each row of the table of R176 at the ends of its range, with the temperatures of reset (dump 20, watch 30, hold 60) and a heater that is
AVAILABLE or not; the commit of new frost parameters in HEATING arms entries 0 and 1 anew on their new channels. -/
theorem test_FrostDumpsAndDrains_rows :
    let at' (st : FrostState) (tank : Option Int) (outside : Int) (heater : Bool) : State :=
      let s := freshRecord 5 .temperature outside base
      let s := match tank with
        | some v => freshRecord 4 .temperature v s
        | none => s
      { s with
        frostParams := { s.frostParams with tank := some 4, outside := some 5, heater := if heater then some 11 else none, valve := some 1 }
        frost := { s.frost with state := st, heater := { s.frost.heater with noChannel := !heater } } }
    (∀ c ∈ ([(.watch, some 10, 100, true, some .dumping), (.heating, some 11, 31, true, none), (.heating, some 20, 31, false, some .dumping),
        (.heating, some 21, 31, false, none), (.watch, none, 30, true, some .dumping), (.watch, none, 31, true, none),
        (.idle, some 100, 30, true, some .watch), (.idle, some 61, 31, true, none), (.idle, some 60, 31, true, some .watch),
        (.watch, some 60, 31, true, some .heating), (.watch, some 60, 31, false, some .heating), (.watch, some 61, 31, true, none),
        (.watch, some 71, 41, true, some .idle), (.watch, some 70, 41, true, none), (.watch, some 71, 40, true, none),
        (.heating, some 71, 41, true, some .watch), (.heating, some 70, 41, true, none), (.drained, some 0, 0, true, none)] :
        List (FrostState × Option Int × Int × Bool × Option FrostState)),
      ((at' c.1 c.2.1 c.2.2.1 c.2.2.2.1).frostRow false).map (fun (t : State) => t.frost.state) = c.2.2.2.2)
      ∧ (∀ st ∈ ([.idle, .watch, .heating] : List FrostState),
        ((at' st (some 100) 35 true).frostRow true).map (fun (t : State) => t.frost.cause) = some .valveLost)
      ∧ (let s := at' .heating (some 50) 0 true
        let q := { s.frostParams with heater := some 10, valve := some 2, holdTemp := 65 }
        let t := s.obey .cp0 (.frostParams q)
        s.frost.state = .heating ∧ t.frost.state = .heating ∧ (t.entry 0).fields = heatFields q 10 ∧ (t.entry 1).fields = holdFields 2
          ∧ ((s.obey .cp0 (.frostParams { q with valve := none })).entry 1).state = .free) := by decide +kernel

/-- The close temperature of reset is 70: a tank of 70 is warm and one of 69 is not; its watch temperature is 30: an outside of 30 is cold and
one of 31 is not. -/
theorem test_ValveCloseNeedsAWarmTank_witness :
    let asked (st : FrostState) (outside : Int) : State :=
      let s := freshRecord 5 .temperature outside (freshRecord 4 .temperature 70 base)
      { s with
        frostParams := { s.frostParams with tank := some 4, outside := some 5, valve := some 1 }
        frost := { s.frost with state := st, drainTimer := some 5 } }
    ((base.port .cp0).role = .panel ∧ imageByte (image [1]) 0 = 1 ∧ base.frost.state = .drained)
      ∧ (∀ v ∈ ([69, 70] : List Int),
        let s := { freshRecord 4 .temperature v base with frostParams := { base.frostParams with tank := some 4 } }
        s.frostParams.tank = some 4 ∧ (s.measRec 4).desc.kind = .temperature ∧ (s.measRec 4).freshness = .fresh
          ∧ (s.measRec 4).value = v ∧ s.frostParams.closeTemp = 70 ∧ s.frostParams.valve = none)
      ∧ (let s := { withChannel 1 (fun x => { x with state := .lockedOut }) base with
          frostParams := { base.frostParams with valve := some 1 } }
        s.frostParams.valve = some 1 ∧ (s.channel 1).state = .lockedOut)
      ∧ (∀ st ∈ ([.dumping, .drained] : List FrostState), ∀ v ∈ ([(30, .watch), (31, .idle)] : List (Int × FrostState)),
        let s := asked st v.1
        let q := s.frostParams
        s.frost.state = st ∧ q.dumpTemp < q.holdTemp ∧ q.holdTemp < q.closeTemp ∧ q.tank = some 4 ∧ q.valve = some 1
          ∧ (s.measRec 4).desc.kind = .temperature ∧ (s.measRec 4).freshness = .fresh ∧ q.closeTemp ≤ (s.measRec 4).value
          ∧ (s.measRec 5).desc.kind = .temperature ∧ (s.measRec 5).freshness ≠ .never
          ∧ (s.obey .cp0 .valveClose).frost.state = v.2)
      ∧ (base.setFrost { base.frost with state := .idle }).frost.state = .idle := by decide +kernel

/-! ### The reset state meets every law, and a step of it answers a next state -/

theorem test_step_at_reset : ∃ t, step base = .next t := ⟨base.advance, rfl⟩

theorem test_PortLawsAreKept_witness : portsLaw base ∧ disabledLaw base :=
  ⟨fun p => by cases p <;> decide, fun p => by cases p <;> decide, fun _ h => nomatch h⟩

theorem test_AwningCountStaysInRange_witness : awningLaw base := by unfold awningLaw; decide

theorem test_OneHeavyChannelRuns_witness : kindsLaw base ∧ heavyLaw base :=
  ⟨by unfold kindsLaw; decide,
    fun c h => absurd h (by revert c; decide), fun _ h => nomatch h⟩

theorem test_EntryLawsAreKept_witness : entriesLaw base ∧ setupLaw base ∧ frostLaw base :=
  ⟨by unfold entriesLaw; decide, by unfold setupLaw; decide, by unfold frostLaw; decide⟩

/-- The reset state; one in TRAVEL with the forced retract of entry 2 waiting; and a step that extends, parked with the ignition OFF. -/
theorem test_ExtendingStaysBarred_witness :
    (kindsLaw base ∧ entriesLaw base ∧ frostLaw base ∧ internalLaw base ∧ outwardLaw base ∧ extendLaw base)
      ∧ (let s := withEntry 2 (fun e => { e with fields := retractFields 14, state := .waiting }) (inMode .travel base)
        (s.mode = .travel ∧ (s.entry 2).state ≠ .free) ∧ internalLaw s ∧ outwardLaw s ∧ extendLaw s)
      ∧ (let s := withChannel 14 (fun x => { x with state := .driveOut }) (clientEntry 7 14 (.motion .extend) .granted (inMode .parked base))
        let s := s.setStep { s.step with state := .extending, operation := some { entry := 7, value := .extend } }
        stepOutward s = true ∧ outwardLaw s ∧ extendLaw s) := by
  have inside (s : State) (h0 : (s.entry 0).state = .free) (h1 : (s.entry 1).state = .free) (h2 : (s.entry 2).state ≠ .free → (s.entry 2).fields = retractFields 14)
      (h3 : (s.entry 3).state = .free) : internalLaw s :=
    ⟨fun h => absurd h0 h, fun h => absurd h1 h, h2, fun h => absurd h3 h⟩
  have still (s : State) (hs : stepOutward s = false) (ha : awningOutward s = false) (hr : s.awning.stallRetry = .none)
      (hm : s.mode = .travel → s.step.state ≠ .extended) : outwardLaw s ∧ extendLaw s := by
    simp only [stepOutward, awningOutward, Bool.or_eq_false_iff, decide_eq_false_iff_not] at hs ha
    refine ⟨⟨fun h => absurd h hs.1, fun h => absurd h hs.2, ?_, fun h => absurd h ha.1, fun h => absurd h ha.2, ?_, ?_⟩, ?_, ?_, hm⟩
    all_goals simp [stepOutward, awningOutward, hs, ha, hr]
  refine ⟨⟨test_OneHeavyChannelRuns_witness.1, test_EntryLawsAreKept_witness.1, test_EntryLawsAreKept_witness.2.2,
      inside _ rfl rfl (by decide +kernel) rfl, still _ (by decide +kernel) (by decide +kernel) rfl (by decide +kernel)⟩,
    ⟨by decide +kernel, inside _ (by decide +kernel) (by decide +kernel) (by decide +kernel) (by decide +kernel),
      still _ (by decide +kernel) (by decide +kernel) (by decide +kernel) (by decide +kernel)⟩,
    by decide +kernel, ⟨by decide +kernel, by decide +kernel, fun _ => ⟨⟨_, rfl, rfl⟩, by decide +kernel⟩, by decide +kernel,
      by decide +kernel, fun h => absurd h (by decide +kernel), by decide +kernel⟩, ?_⟩
  unfold extendLaw
  decide +kernel

/-- A pump on channel 5 that a dry fresh tank bars, and a dump valve on channel 1 that is not held in DRAINED. -/
theorem test_WaterChannelsStayOff_witness :
    (kindsLaw base ∧ heavyLaw base ∧ entriesLaw base ∧ frostLaw base ∧ internalLaw base ∧ waterKeeping base ∧ waterLaw base)
      ∧ (let s : State := { base with frostParams := { base.frostParams with pump := some 5, valve := some 1 } }
        pumpBarred s ∧ ¬ valveHeld s ∧ waterKeeping s ∧ waterLaw s) := by
  have keeps (s : State) (h : s.budget.run = none)
      (hk : (∀ c, s.frostParams.valve = some c → c.1 < 14 ∧ s.frostParams.pump ≠ some c)
        ∧ (∀ c, s.frostParams.pump = some c → c.1 < 14)
        ∧ (∀ c, (s.channel c).desc.kind = .unused → resting (s.channel c) = true)
        ∧ (∀ k, (s.measRec k).freshness = .never → (s.measRec k).value = 0 ∧ (s.measRec k).filtered = 0)
        ∧ ∀ i : Fin 48, (s.entry i).state.isCandidate = false) : waterKeeping s :=
    ⟨hk.1, hk.2.1, hk.2.2.1, hk.2.2.2.1, fun r e => by simp [h] at e, fun _ i e => by simp [hk.2.2.2.2 i] at e⟩
  have rests (s : State) (h : ∀ c, c.1 < 14 → resting (s.channel c) = true) (hv : ∀ c, s.frostParams.valve = some c → c.1 < 14)
      (hp : ∀ c, s.frostParams.pump = some c → c.1 < 14) : waterLaw s :=
    fun _ => ⟨fun c e _ => h c (hv c e), fun c e _ => h c (hp c e)⟩
  refine ⟨⟨test_OneHeavyChannelRuns_witness.1, test_OneHeavyChannelRuns_witness.2, test_EntryLawsAreKept_witness.1,
      test_EntryLawsAreKept_witness.2.2, test_ExtendingStaysBarred_witness.1.2.2.2.1, keeps _ rfl (by decide +kernel), rests _ (by decide +kernel) (by decide) (by decide)⟩, ?_, ?_, keeps _ rfl (by decide +kernel),
    rests _ (by decide +kernel) (by decide) (by decide)⟩
  · exact .inr (.inl rfl)
  · rintro (h | h | h) <;> exact nomatch h

theorem test_AccountLawsAreKept_witness : chargeLaw base ∧ tierLaw base :=
  ⟨by unfold chargeLaw; decide, by unfold tierLaw; decide⟩

theorem test_GrantsStayWithinTheBudget_witness : budgetLaw base := by
  refine ⟨by decide, by decide, by decide, ?_, fun _ => ⟨by decide +kernel, by decide +kernel⟩⟩
  intro r h
  nomatch h

theorem test_LineQueueAndCountersStayInRange_witness : senderLaw base ∧ queueLaw base ∧ countersLaw base :=
  ⟨by unfold senderLaw soundHealth; decide, by unfold queueLaw; decide, by unfold countersLaw; decide⟩

end Sys2Proof.Tests
end

section
/-! What a frame's close leaves of its port before the request acts (1.2), as one state that every request starts from. -/

namespace Sys2Proof.Machine

open Sys2Proof Sys2Proof.Safety

/-- R3, R6: on an enabled port a frame of at least one byte closes into `afterFrame`, where its request acts. -/
theorem Port.close_eq_request_afterFrame {x : Port} {f : Frame} {n : Nat} (gives : List Byte) (request : Frame → Port → Port)
    (hr : x.role ≠ .disabled) (hf : x.frame = some f) (hn : n ≠ 0) :
    x.close n gives request = request f (afterFrame x f n gives) :=
  x.close_open gives request hr hf hn

/-- R4: a STAGE of 1 to 32 bytes whose image the frame holds whole takes effect. -/
theorem Port.stageFrame_eq_stage {x : Port} {len : Byte} {bytes : List Byte} (h1 : 1 ≤ len.toNat) (h32 : len.toNat ≤ 32)
    (hb : len.toNat ≤ bytes.length) : x.stageFrame (len :: bytes) = x.stage len.toNat bytes :=
  if_neg (by omega)

/-! ### The frame commands on an enabled port with a frame open -/

section FrameCommands

variable {s : State} {p : PortId} {f : Frame} (hr : (s.port p).role ≠ .disabled) (hf : (s.port p).frame = some f)
include hr hf

/-- What the frame commands share: the request acts on the port as its frame's close leaves it. -/
theorem next_close_eq_next_request (n : Nat) (request : Frame → Port → Port) (hn : n ≠ 0) :
    (.next (s.setPort p ((s.port p).close n [] request)) : Host.Outcome State Fault Refusal)
      = .next (s.setPort p (request f (afterFrame (s.port p) f n []))) := by
  rw [Port.close_eq_request_afterFrame [] request hr hf hn]

theorem exec_stage_open (len : Byte) (bytes : List Byte) :
    exec (.stage p (len :: bytes)) s
      = .next (s.setPort p ((afterFrame (s.port p) f (bytes.length + 2) []).stageFrame (len :: bytes))) :=
  next_close_eq_next_request hr hf _ (fun _ y => y.stageFrame (len :: bytes)) (Nat.succ_ne_zero _)

theorem exec_commit_open (t : Byte) (more : List Byte) :
    exec (.commit p (t :: more)) s = .next (s.setPort p ((afterFrame (s.port p) f (more.length + 2) []).commit t.toNat)) :=
  next_close_eq_next_request hr hf _ (fun _ y => y.withRecord (t :: more) Port.commit) (Nat.succ_ne_zero _)

theorem exec_fetch_open (r : Byte) (more : List Byte) :
    exec (.fetch p (r :: more)) s = .next (s.setPort p ((afterFrame (s.port p) f (more.length + 2) []).fetch r.toNat)) :=
  next_close_eq_next_request hr hf _ (fun _ y => y.withRecord (r :: more) Port.fetch) (Nat.succ_ne_zero _)

theorem exec_fetchView_open (r : Byte) (more : List Byte) :
    exec (.fetchView p (r :: more)) s
      = .next (s.setPort p ((afterFrame (s.port p) f (more.length + 2) []).fetchView r.toNat)) :=
  next_close_eq_next_request hr hf _ (fun _ y => y.withRecord (r :: more) Port.fetchView) (Nat.succ_ne_zero _)

theorem exec_view_open {n : Nat} (hn : n ≠ 0) :
    exec (.view p n) s = .next (s.setPort p (afterFrame (s.port p) f n []).view) :=
  next_close_eq_next_request hr hf n (fun _ y => y.view) hn

end FrameCommands

end Sys2Proof.Machine
end

section
/-! The staging and the readout pair under the requests of a port (R7, R8, R10, R11). -/

namespace Sys2Proof.Proofs

open Sys2Proof Sys2Proof.Machine Sys2Proof.Safety

/-- Settles O6: each command is its request made at `afterFrame`, and a case of what the request can do goes with each state of the
staging pair. -/
theorem stageAndCommitMoveTheStagingPair : Obligations.StageAndCommitMoveTheStagingPair := by
  unfold Obligations.StageAndCommitMoveTheStagingPair
  refine ⟨fun s p len bytes f hr hf h1 h32 hb => ?stage, fun s p t more f hr hf => ?commit⟩
  case stage =>
    rw [exec_stage_open hr hf, Port.stageFrame_eq_stage h1 h32 hb]
    obtain ⟨free, e⟩ | ⟨pending, e⟩ := (afterFrame (s.port p) f (bytes.length + 2) []).stage_cases len.toNat bytes <;> rw [e]
    · exact ⟨fun _ => rfl, fun pending => absurd pending free⟩
    · exact ⟨fun free => absurd pending free, fun _ => rfl⟩
  case commit =>
    rw [exec_commit_open hr hf]
    obtain ⟨idle, e⟩ | ⟨busy, e⟩ | ⟨pending, e⟩ := (afterFrame (s.port p) f (more.length + 2) []).commit_cases t.toNat <;>
      rw [e]
    · exact ⟨fun _ => rfl, fun busy => absurd (idle.symm.trans busy) nofun,
        fun pending => absurd (idle.symm.trans pending) nofun⟩
    · exact ⟨fun idle => absurd (busy.symm.trans idle) nofun, fun _ => rfl,
        fun pending => absurd (busy.symm.trans pending) nofun⟩
    · exact ⟨fun idle => absurd (pending.symm.trans idle) nofun,
        fun busy => absurd (pending.symm.trans busy) nofun, fun _ => rfl⟩

/-- Settles O7: each command is its request made at `afterFrame`, and the readout pair refuses all three requests in BUSY alone. -/
theorem fetchAndViewMoveTheReadoutPair : Obligations.FetchAndViewMoveTheReadoutPair := by
  unfold Obligations.FetchAndViewMoveTheReadoutPair
  refine ⟨fun s p r more f hr hf => ?fetch, fun s p n f hn hr hf => ?view⟩
  case fetch =>
    rw [exec_fetch_open hr hf, exec_fetchView_open hr hf]
    have viewCases := (afterFrame (s.port p) f (more.length + 2) []).fetchView_cases r.toNat
    obtain ⟨free, e⟩ | ⟨busy, e⟩ := (afterFrame (s.port p) f (more.length + 2) []).fetch_cases r.toNat
    · have e' := (viewCases.resolve_right fun refused => free refused.1).2
      rw [e, e']
      exact ⟨fun _ => rfl, fun _ => rfl, fun busy => absurd busy free⟩
    · have e' := (viewCases.resolve_left fun taken => taken.1 busy).2
      rw [e, e']
      exact ⟨fun free => absurd busy free, fun free => absurd busy free, fun _ => ⟨rfl, rfl⟩⟩
  case view =>
    rw [exec_view_open hr hf hn.ne']
    obtain ⟨free, e⟩ | ⟨busy, e⟩ := (afterFrame (s.port p) f n []).view_cases <;> rw [e]
    · exact ⟨fun _ => rfl, fun busy => absurd busy free⟩
    · exact ⟨fun free => absurd busy free, fun _ => rfl⟩

end Sys2Proof.Proofs
end

section
/-! Dispatch of one reading: the clamp of its kind, the record that takes it, and the reading queue (R61, R62, R72). -/

namespace Sys2Proof.Machine

open Sys2Proof

/-- The clamp by comparisons with the two limits (4.4). -/
theorem clampInt_eq_ite {low high : Int} (h : low ≤ high) (v : Int) :
    clampInt low high v = if v < low then low else if high < v then high else v := by
  unfold clampInt
  split
  · omega
  · split <;> omega

theorem State.matchesReading_iff (s : State) (r : Reading) (k : Fin 24) :
    s.matchesReading r k = true
      ↔ (s.measRec k).desc.address = r.address ∧ (s.measRec k).desc.channel = r.channel
        ∧ (s.measRec k).desc.kind = r.kind := by
  simp [State.matchesReading, and_assoc]

theorem State.queueTakes_iff (s : State) (r : Reading) :
    s.queueTakes r = true
      ↔ s.line.queueEnable = true ∧ s.line.windowLow ≤ r.address ∧ r.address ≤ s.line.windowHigh := by
  simp [State.queueTakes, and_assoc]

/-- The record found for a reading is the lowest-numbered of those that match it (R62). -/
theorem State.matchOf_eq_some {s : State} {r : Reading} {k : Fin 24} (hk : s.matchesReading r k = true)
    (lowest : ∀ l, l < k → s.matchesReading r l ≠ true) : s.matchOf r = some k := by
  rw [State.matchOf, indexes, List.find?_eq_some_iff_append]
  have hlt : k.1 < (List.finRange 24).length := by simp
  refine ⟨hk, (List.finRange 24).take k.1, (List.finRange 24).drop (k.1 + 1), ?_, fun l hl => ?_⟩
  · have hget : (List.finRange 24)[k.1] = k := by simp
    conv_lhs => rw [← List.take_append_drop k.1 (List.finRange 24), List.drop_eq_getElem_cons hlt, hget]
  · obtain ⟨i, hi, e⟩ := List.mem_take_iff_getElem.mp hl
    have hlk : l < k := by
      rw [← e, List.getElem_finRange]
      exact Fin.lt_def.mpr (by simp; omega)
    simpa using lowest l hlk

theorem State.matchOf_eq_none {s : State} {r : Reading} (h : ∀ k, s.matchesReading r k ≠ true) : s.matchOf r = none :=
  List.find?_eq_none.mpr fun k _ => h k

/-- R62: the record that matches takes the clamped reading; the clamp keeps what a match reads. -/
theorem State.dispatch_of_match {s : State} {r : Reading} {k : Fin 24} (h : s.matchOf r = some k) :
    s.dispatch r = s.receive k (r.kind.clamp r.value) := by
  have sameMatch : s.matchOf { r with value := r.kind.clamp r.value } = some k := h
  simp only [State.dispatch, sameMatch]

/-- R62: a reading that no record matches goes to the queue where its window holds the address, and nowhere otherwise. -/
theorem State.dispatch_of_no_match {s : State} {r : Reading} (h : s.matchOf r = none) :
    s.dispatch r = if s.queueTakes r then s.enqueue { r with value := r.kind.clamp r.value } else s := by
  have sameMatch : s.matchOf { r with value := r.kind.clamp r.value } = none := h
  simp only [State.dispatch, sameMatch]
  rfl

end Sys2Proof.Machine

namespace Sys2Proof.Proofs

open Sys2Proof Sys2Proof.Machine Sys2Proof.Safety

/-- Settles O24: a reading that a record matches is taken by the lowest-numbered such record, and the window decides of any other. -/
theorem dispatchOffersTheReading : Obligations.DispatchOffersTheReading := by
  unfold Obligations.DispatchOffersTheReading
  refine ⟨fun s r => ?dispatch, fun s r => ?enqueue⟩
  case dispatch =>
    extract_lets limit v fits
    have clamped : r.kind.clamp r.value = v := by
      have within {low high : Int} (h : low ≤ high) : clampInt low high r.value = limit low high := clampInt_eq_ite h _
      simp only [v]
      cases r.kind <;> exact within (by decide)
    have fits_iff (k : Fin 24) : fits k ↔ s.matchesReading r k = true := (s.matchesReading_iff r k).symm
    simp only [fits_iff, ← s.queueTakes_iff r, ← clamped]
    refine ⟨fun k hk lowest => State.dispatch_of_match (State.matchOf_eq_some hk lowest), fun unmatched => ?_⟩
    rw [State.dispatch_of_no_match (State.matchOf_eq_none unmatched)]
    exact ⟨fun takes => if_pos takes, fun leaves => if_neg leaves⟩
  case enqueue =>
    exact ⟨fun empty => if_pos empty, fun filled => if_neg filled.ne'⟩

end Sys2Proof.Proofs
end

section
/-! What the work of the grant allocator, the bank and the motion controller keeps of the ports, the channels, the demand entries and the
budget, said once for every operation that a poll-period start can call. -/

namespace Sys2Proof.Machine

open Sys2Proof

/-! ### The relations -/

/-- What a port has heard of an event from `x` to `y`: while it loses none, its notices are followed by further ones, of which those of kind
STALE are `l` (R22, R67). -/
def Port.Hears (x : Port) (l : List Notice) (y : Port) : Prop :=
  y.role = x.role
    ∧ (x.role ≠ .disabled → y.overrun = false →
      x.overrun = false ∧ ∃ more, y.notices = x.notices ++ more ∧ more.filter (fun n => n.kind = .stale) = l)

/-- What a change of an entry's standing keeps of it. That an entry is a candidate is kept off the bridges alone, where no operation
ends. -/
structure EntryKept (e e' : Entry) : Prop where
  fields : e'.fields = e.fields
  owner : e'.owner = e.owner
  calling : e'.calling = e.calling
  free : e'.state = .free ↔ e.state = .free
  candidate : e.fields.channel.1 < 14 → e'.state.isCandidate = e.state.isCandidate

/-- S, A and B of record 113, which the recomputation of the budget alone writes (R106). -/
def State.budgetTerms (s : State) : Nat × Nat × Nat := (s.budget.sourceSum, s.budget.allowance, s.budget.budget)

/-- An event from `s` to `t` posts the STALE notices `l`, and keeps every channel descriptor and the entries but those that `own` names. -/
structure Quiet (own : Fin 48 → Prop) (l : List Notice) (s t : State) : Prop where
  ports : ∀ p, (s.port p).Hears l (t.port p)
  desc : ∀ c, (t.channel c).desc = (s.channel c).desc
  entries : ∀ i, ¬ own i → EntryKept (s.entry i) (t.entry i)

/-- Such an event that leaves the terms of the budget as they are, as a re-evaluation does. -/
structure Regrants (own : Fin 48 → Prop) (l : List Notice) (s t : State) : Prop extends Quiet own l s t where
  terms : t.budgetTerms = s.budgetTerms

/-- Such an event that judges no winner anew: what is BLOCKED on a steady channel off the bridges stays so. -/
structure Keeps (own : Fin 48 → Prop) (l : List Notice) (s t : State) : Prop extends Regrants own l s t where
  blocked : ∀ i, ¬ own i → (s.entry i).fields.channel.1 < 14 → (s.descOf i).kind.steady = true →
    (s.entry i).state = .blocked → (t.entry i).state = .blocked

/-! ### They are closed under one event after another -/

theorem Port.Hears.refl (x : Port) : x.Hears [] x := ⟨rfl, fun _ h => ⟨h, [], (List.append_nil _).symm, rfl⟩⟩

theorem Port.Hears.trans {x y z : Port} {l l' : List Notice} (h : x.Hears l y) (h' : y.Hears l' z) : x.Hears (l ++ l') z := by
  refine ⟨h'.1.trans h.1, fun hr hz => ?_⟩
  obtain ⟨hy, more', e', f'⟩ := h'.2 (h.1 ▸ hr) hz
  obtain ⟨hx, more, e, f⟩ := h.2 hr hy
  exact ⟨hx, more ++ more', by rw [e', e, List.append_assoc], by rw [List.filter_append, f, f']⟩

theorem Port.hears_post (x : Port) (n : Notice) : x.Hears ([n].filter fun n => n.kind = .stale) (x.post n) := by
  refine ⟨(x.post_frame n).1, fun hr ho => ?_⟩
  obtain ⟨h, _⟩ | ⟨_, _, e⟩ | ⟨_, _, _, e⟩ := x.post_cases n
  · exact absurd h hr
  · rw [e] at ho ⊢
    exact ⟨ho, [n], rfl, rfl⟩
  · exact absurd (e.symm.trans ho) nofun

theorem EntryKept.refl (e : Entry) : EntryKept e e := ⟨rfl, rfl, rfl, .rfl, fun _ => rfl⟩

theorem EntryKept.trans {a b c : Entry} (h : EntryKept a b) (h' : EntryKept b c) : EntryKept a c where
  fields := h'.fields.trans h.fields
  owner := h'.owner.trans h.owner
  calling := h'.calling.trans h.calling
  free := h'.free.trans h.free
  candidate low := (h'.candidate (h.fields ▸ low)).trans (h.candidate low)

variable {own : Fin 48 → Prop} {l l' : List Notice} {s t u : State}

theorem Quiet.refl (s : State) : Quiet own [] s s := ⟨fun _ => .refl _, fun _ => rfl, fun _ _ => .refl _⟩

theorem Quiet.trans (h : Quiet own l s t) (h' : Quiet own l' t u) : Quiet own (l ++ l') s u where
  ports p := (h.ports p).trans (h'.ports p)
  desc c := (h'.desc c).trans (h.desc c)
  entries i hi := (h.entries i hi).trans (h'.entries i hi)

/-- A kept entry targets a channel of the descriptor that it had. -/
theorem Quiet.descOf (h : Quiet own l s t) {i : Fin 48} (hi : ¬ own i) : t.descOf i = s.descOf i := by
  unfold State.descOf
  rw [(h.entries i hi).fields, h.desc]

theorem Regrants.refl (s : State) : Regrants own [] s s := ⟨.refl s, rfl⟩

theorem Regrants.trans (h : Regrants own l s t) (h' : Regrants own l' t u) : Regrants own (l ++ l') s u :=
  ⟨h.toQuiet.trans h'.toQuiet, h'.terms.trans h.terms⟩

theorem Keeps.refl (s : State) : Keeps own [] s s := ⟨.refl s, fun _ _ _ _ h => h⟩

theorem Keeps.trans (h : Keeps own l s t) (h' : Keeps own l' t u) : Keeps own (l ++ l') s u where
  toRegrants := h.toRegrants.trans h'.toRegrants
  blocked i hi low steady hb :=
    h'.blocked i hi ((h.entries i hi).fields ▸ low) (h.descOf hi ▸ steady) (h.blocked i hi low steady hb)

/-- Fewer entries are kept of more that are owned. -/
theorem Quiet.mono {own' : Fin 48 → Prop} (h : Quiet own l s t) (le : ∀ i, own i → own' i) : Quiet own' l s t :=
  ⟨h.ports, h.desc, fun i hi => h.entries i fun o => hi (le i o)⟩

theorem Regrants.mono {own' : Fin 48 → Prop} (h : Regrants own l s t) (le : ∀ i, own i → own' i) : Regrants own' l s t :=
  ⟨h.toQuiet.mono le, h.terms⟩

/-- A further event that posts no STALE notice. -/
theorem Keeps.andThen (h : Keeps own l s t) (h' : Keeps own [] t u) : Keeps own l s u := l.append_nil ▸ h.trans h'

theorem Regrants.andThen (h : Regrants own l s t) (h' : Regrants own [] t u) : Regrants own l s u := l.append_nil ▸ h.trans h'

theorem Quiet.andThen (h : Quiet own l s t) (h' : Quiet own [] t u) : Quiet own l s u := l.append_nil ▸ h.trans h'

/-! ### The writes of the state -/

/-- A write elsewhere in the state. -/
theorem Keeps.elsewhere (h : Keeps own l s t) (hp : u.ports = t.ports) (hc : u.channels = t.channels) (he : u.entries = t.entries)
    (hb : u.budgetTerms = t.budgetTerms) : Keeps own l s u := by
  have port (p : PortId) : u.port p = t.port p := congrArg (PerPort.get · p) hp
  have channel (c : Fin 16) : u.channel c = t.channel c := congrArg (vget · c) hc
  have entry (i : Fin 48) : u.entry i = t.entry i := congrArg (vget · i) he
  refine ⟨⟨⟨fun p => ?_, fun c => ?_, fun i hi => ?_⟩, hb.trans h.terms⟩, fun i hi => ?_⟩
  · exact port p ▸ h.ports p
  · exact channel c ▸ h.desc c
  · exact entry i ▸ h.entries i hi
  · exact entry i ▸ h.blocked i hi

theorem Keeps.setStep (h : Keeps own l s t) (x : StepControl) : Keeps own l s (t.setStep x) := h.elsewhere rfl rfl rfl rfl
theorem Keeps.setAwning (h : Keeps own l s t) (x : AwningControl) : Keeps own l s (t.setAwning x) :=
  h.elsewhere rfl rfl rfl rfl
theorem Keeps.setOwed (h : Keeps own l s t) (b : Bool) : Keeps own l s (t.setOwed b) := h.elsewhere rfl rfl rfl rfl
theorem Keeps.setWind (h : Keeps own l s t) (x : WindControl) : Keeps own l s (t.setWind x) := h.elsewhere rfl rfl rfl rfl
theorem Keeps.setFrost (h : Keeps own l s t) (x : FrostControl) : Keeps own l s (t.setFrost x) :=
  h.elsewhere rfl rfl rfl rfl
theorem Keeps.setMeas (h : Keeps own l s t) (k : Fin 24) (m : MeasRecord) : Keeps own l s (t.setMeas k m) :=
  h.elsewhere rfl rfl rfl rfl
theorem Keeps.setAccount (h : Keeps own l s t) (x : Account) : Keeps own l s (t.setAccount x) :=
  h.elsewhere rfl rfl rfl rfl
theorem Keeps.setRow (h : Keeps own l s t) (c : Fin 16) (r : ChannelRow) : Keeps own l s (t.setRow c r) :=
  h.elsewhere rfl rfl rfl rfl

/-- A write of the budget record that leaves S, A and B as they are. -/
theorem Keeps.setBudget (h : Keeps own l s t) {x : Budget} (hx : (t.setBudget x).budgetTerms = t.budgetTerms) :
    Keeps own l s (t.setBudget x) :=
  h.elsewhere rfl rfl rfl hx

/-- A write of a channel under its descriptor. -/
theorem Keeps.setChannel (h : Keeps own l s t) {c : Fin 16} {x : Channel} (hx : x.desc = (t.channel c).desc) :
    Keeps own l s (t.setChannel c x) where
  ports := h.ports
  desc d := by
    rw [t.channel_setChannel]
    split
    · next e => exact e ▸ hx.trans (h.desc c)
    · exact h.desc d
  entries := h.entries
  terms := h.terms
  blocked := h.blocked

theorem Quiet.postAll (h : Quiet own l s t) (n : Notice) :
    Quiet own (l ++ [n].filter fun n => n.kind = .stale) s (t.postAll n) :=
  ⟨fun p => (h.ports p).trans (t.port_postAll n p ▸ (t.port p).hears_post n), h.desc, h.entries⟩

theorem Keeps.postAll (h : Keeps own l s t) (n : Notice) :
    Keeps own (l ++ [n].filter fun n => n.kind = .stale) s (t.postAll n) :=
  ⟨⟨h.toQuiet.postAll n, h.terms⟩, h.blocked⟩

theorem append_stale_of_other {n : Notice} (hn : n.kind ≠ .stale) (l : List Notice) :
    l ++ [n].filter (fun n => n.kind = .stale) = l := by
  simp [hn]

/-- A notice of any kind but STALE. -/
theorem Keeps.postOther (h : Keeps own l s t) {n : Notice} (hn : n.kind ≠ .stale) : Keeps own l s (t.postAll n) :=
  append_stale_of_other hn l ▸ h.postAll n

theorem Keeps.postTo (h : Keeps own l s t) (p : PortId) {n : Notice} (hn : n.kind ≠ .stale) : Keeps own l s (t.postTo p n) where
  ports q := by
    rw [State.postTo, t.port_setPort]
    split
    · next e =>
      subst e
      exact append_stale_of_other hn l ▸ (h.ports p).trans ((t.port p).hears_post n)
    · exact h.ports q
  desc := h.desc
  entries := h.entries
  terms := h.terms
  blocked := h.blocked

theorem EntryKept.stand {e : Entry} {st : EntryState} (r : Reason) (he : e.state ≠ .free) (hst : st ≠ .free)
    (candidate : e.fields.channel.1 < 14 → st.isCandidate = e.state.isCandidate) : EntryKept e (e.stand st r) :=
  ⟨rfl, rfl, rfl, ⟨fun h => absurd h hst, fun h => absurd h he⟩, candidate⟩

/-- One entry that is not FREE takes another standing. -/
theorem Keeps.stand (h : Keeps own l s t) {i : Fin 48} {st : EntryState} (r : Reason) (hi : (t.entry i).state ≠ .free) (hst : st ≠ .free)
    (candidate : (t.entry i).fields.channel.1 < 14 → st.isCandidate = (t.entry i).state.isCandidate)
    (blocked : (t.entry i).fields.channel.1 < 14 → (t.descOf i).kind.steady = true → (t.entry i).state = .blocked → st = .blocked) :
    Keeps own l s (t.stand i st r) := by
  refine h.andThen ⟨⟨⟨fun _ => .refl _, fun _ => rfl, fun j _ => ?_⟩, rfl⟩, fun j _ low steady hb => ?_⟩
  all_goals
    rw [t.entry_stand]
    split
  · next e => exact e ▸ .stand r hi hst candidate
  · exact .refl _
  · next e =>
    subst e
    exact blocked low steady hb
  · exact hb

/-! ### The channels keep their descriptors -/

theorem Channel.stopCommand_desc (x : Channel) : x.stopCommand.desc = x.desc := by unfold Channel.stopCommand; split <;> rfl
theorem Channel.driveCommand_desc (x : Channel) (d : Direction) : (x.driveCommand d).desc = x.desc := by
  unfold Channel.driveCommand; (repeat' split) <;> rfl
theorem Channel.runOff_desc (x : Channel) : x.runOff.desc = x.desc := by unfold Channel.runOff; split <;> rfl
theorem Channel.grantSwitch_desc (x : Channel) (level : Option Nat) : (x.grantSwitch level).desc = x.desc := by
  unfold Channel.grantSwitch; (repeat' split) <;> rfl
theorem Channel.grantDimmer_desc (x : Channel) (level : Option Nat) : (x.grantDimmer level).desc = x.desc := by
  unfold Channel.grantDimmer; (repeat' split) <;> rfl

end Sys2Proof.Machine
end

section
/-! The motion controller's hand-over of a grant keeps what `Keeps` says: it moves a bridge, ends an operation on one, and posts MOTION
notices (9.3, 9.4). -/

namespace Sys2Proof.Machine

open Sys2Proof

variable {own : Fin 48 → Prop} {l : List Notice} {s t : State}

/-! ### The step -/

theorem Keeps.postMotion (h : Keeps own l s t) (b : Bridge) (ev : MotionEvent) : Keeps own l s (t.postMotion b ev) :=
  h.postOther nofun

/-- A bridge is channel 14 or 15. -/
theorem not_bridgeChannel_lt (b : Bridge) : ¬ (bridgeChannel b).1 < 14 := by cases b <;> decide

/-- A candidate is not FREE. -/
theorem EntryState.ne_free_of_isCandidate {st : EntryState} (h : st.isCandidate = true) : st ≠ .free := by
  rintro rfl; cases h

theorem Keeps.finishEntry (h : Keeps own l s t) (b : Bridge) (i : Fin 48) (r : Reason) : Keeps own l s (t.finishEntry b i r) := by
  unfold State.finishEntry
  dsimp only
  split
  · next hc =>
    obtain ⟨candidate, bridge⟩ := hc
    exact h.stand r (EntryState.ne_free_of_isCandidate candidate) nofun (fun low => absurd (bridge ▸ low) (not_bridgeChannel_lt b))
      fun low => absurd (bridge ▸ low) (not_bridgeChannel_lt b)
  · exact h

theorem Keeps.stepFinish (h : Keeps own l s t) (r : Reason) : Keeps own l s (t.stepFinish r) := by
  unfold State.stepFinish
  refine (Keeps.setStep ?_ _).setOwed true
  split
  · exact h.finishEntry _ _ _
  · exact h

theorem Keeps.stepResolve (h : Keeps own l s t) : Keeps own l s t.stepResolve := h.setStep _
theorem Keeps.stepStop (h : Keeps own l s t) : Keeps own l s t.stepStop := (h.setChannel (Channel.stopCommand_desc _)).setStep _
theorem Keeps.stepStarted (h : Keeps own l s t) (d : Direction) : Keeps own l s (t.stepStarted d) := h.setStep _

theorem Keeps.stepDrive (h : Keeps own l s t) (d : Direction) : Keeps own l s (t.stepDrive d) := by
  have driven := h.setChannel (Channel.driveCommand_desc (t.channel 14) d)
  unfold State.stepDrive
  dsimp only
  split <;> [skip; split <;> [skip; split]]
  · exact h.stepResolve.setStep _
  · exact driven
  · exact driven.setStep _
  · exact driven.stepStarted d

theorem Keeps.stepClear (h : Keeps own l s t) : Keeps own l s t.stepClear := by
  have resolved := h.stepResolve.setStep { t.stepResolve.step with timeouts := 0, jamRetry := .none }
  unfold State.stepClear
  dsimp only
  split
  · exact (resolved.stepFinish _).postMotion _ _
  · exact (resolved.stepFinish _).postMotion _ _

theorem Keeps.stepCarry (h : Keeps own l s t) (v : MotionValue) : Keeps own l s (t.stepCarry v) := by
  unfold State.stepCarry
  (repeat' split) <;> with_reducible apply_rules [Keeps.stepDrive, Keeps.stepFinish, Keeps.stepResolve, Keeps.stepStop, Keeps.stepClear]

theorem Keeps.stepAccept (h : Keeps own l s t) (o : Operation) : Keeps own l s (t.stepAccept o) := by
  unfold State.stepAccept
  refine Keeps.setStep ?_ _
  split
  · exact h.stepFinish _
  · exact h

theorem Keeps.stepLoss (h : Keeps own l s t) : Keeps own l s t.stepLoss := by
  unfold State.stepLoss
  refine Keeps.setStep ?_ _
  split
  · exact h.stepStop.stepResolve
  · exact h

theorem Keeps.stepHand (h : Keeps own l s t) (g : Option Operation) : Keeps own l s (t.stepHand g) := by
  unfold State.stepHand
  split <;> split
  · exact h.stepLoss
  · exact h
  · exact h
  · exact (h.stepAccept _).stepCarry _

/-! ### The awning -/

theorem Keeps.awningFinish (h : Keeps own l s t) (r : Reason) : Keeps own l s (t.awningFinish r) := by
  unfold State.awningFinish
  refine (Keeps.setAwning ?_ _).setOwed true
  split
  · exact h.finishEntry _ _ _
  · exact h

theorem Keeps.awningResolve (h : Keeps own l s t) : Keeps own l s t.awningResolve := h.setAwning _
theorem Keeps.awningAim (h : Keeps own l s t) (x : AwningTarget) : Keeps own l s (t.awningAim x) := h.setAwning _
theorem Keeps.awningStop (h : Keeps own l s t) : Keeps own l s t.awningStop := (h.setChannel (Channel.stopCommand_desc _)).setAwning _
theorem Keeps.awningArrive (h : Keeps own l s t) : Keeps own l s t.awningArrive := h.awningStop.awningResolve.awningFinish _

theorem Keeps.awningCompare (h : Keeps own l s t) : Keeps own l s t.awningCompare := by
  unfold State.awningCompare
  split
  · split
    · exact h.awningArrive
    · exact h
  · split
    · exact h.awningArrive
    · exact h
  · exact h

theorem Keeps.awningStarted (h : Keeps own l s t) (d : Direction) : Keeps own l s (t.awningStarted d) := (h.setAwning _).awningCompare

theorem Keeps.awningDrive (h : Keeps own l s t) (d : Direction) : Keeps own l s (t.awningDrive d) := by
  have driven := h.setChannel (Channel.driveCommand_desc (t.channel 15) d)
  unfold State.awningDrive
  dsimp only
  split <;> [skip; split <;> [skip; split]]
  · exact h.awningResolve.setAwning _
  · exact driven
  · exact driven.setAwning _
  · exact driven.awningStarted d

theorem Keeps.awningClear (h : Keeps own l s t) : Keeps own l s t.awningClear := (h.awningResolve.awningFinish _).postMotion _ _

theorem Keeps.awningSeek (h : Keeps own l s t) (n : Nat) : Keeps own l s (t.awningSeek n) := by
  unfold State.awningSeek
  split <;> [skip; split]
  · exact h.awningArrive
  · exact (h.awningAim _).awningDrive _
  · exact (h.awningAim _).awningDrive _

theorem Keeps.awningCarry (h : Keeps own l s t) (v : MotionValue) : Keeps own l s (t.awningCarry v) := by
  have finish (r : Reason) := h.awningFinish r
  have drive (x : AwningTarget) (d : Direction) := (h.awningAim x).awningDrive d
  have seek (n : Nat) := h.awningSeek n
  have aim (x : AwningTarget) := h.awningAim x
  have arrive := h.awningArrive
  have clear := h.awningClear
  unfold State.awningCarry
  dsimp only
  (repeat' split) <;> with_reducible apply_rules [finish, drive, seek, aim, arrive, clear]

theorem Keeps.awningLoss (h : Keeps own l s t) : Keeps own l s t.awningLoss := by
  unfold State.awningLoss
  refine Keeps.setAwning ?_ _
  split
  · exact h.awningStop.awningResolve
  · exact h

theorem Keeps.awningHand (h : Keeps own l s t) (g : Option Operation) : Keeps own l s (t.awningHand g) := by
  unfold State.awningHand
  split <;> split
  · exact h.awningLoss
  · exact h
  · exact h
  · exact (h.setAwning _).awningCarry _

theorem Keeps.handMotion (h : Keeps own l s t) : Keeps own l s t.handMotion := by
  have handed := (h.stepHand (t.grantedOperation .step)).awningHand (t.grantedOperation .awning)
  unfold State.handMotion
  dsimp only
  split
  · exact handed
  · exact handed.setOwed true

end Sys2Proof.Machine
end

section
/-! A steady re-evaluation (Chapter 6) judges the winners and hands its results on: what it keeps, said as `Regrants`, and what of its
passes judges no winner, said as `Keeps`. -/

namespace Sys2Proof.Machine

open Sys2Proof

variable {own : Fin 48 → Prop} {l : List Notice} {s t : State}

/-! ### The end of a run -/

theorem Keeps.dropRun (h : Keeps own l s t) : Keeps own l s t.dropRun := by
  unfold State.dropRun
  split
  · exact h
  · exact ((h.setChannel (Channel.runOff_desc _)).setRow _ _).setBudget rfl

theorem State.dropRun_entry (s : State) (i : Fin 48) : s.dropRun.entry i = s.entry i := by
  unfold State.dropRun
  split <;> rfl

theorem Keeps.dropRunOf (h : Keeps own l s t) (i : Fin 48) : Keeps own l s (t.dropRunOf i) := by
  unfold State.dropRunOf
  split
  · exact h.dropRun
  · exact h

theorem State.dropRunOf_entry (s : State) (i j : Fin 48) : (s.dropRunOf i).entry j = s.entry j := by
  unfold State.dropRunOf
  split
  · exact s.dropRun_entry j
  · rfl

/-- The entry of a run that ends so was GRANTED, and waits again. -/
theorem Keeps.endRunWaiting (h : Keeps own l s t) (r : Reason) : Keeps own l s (t.endRunAs .waiting r) := by
  unfold State.endRunAs
  split
  · exact h
  split
  · next run _ granted =>
    have standing : (t.dropRun.entry run.entry).state = .granted := t.dropRun_entry _ ▸ granted
    refine h.dropRun.stand r (standing ▸ nofun) nofun (fun _ => standing ▸ rfl) fun _ _ hb => ?_
    exact absurd (standing.symm.trans hb) nofun
  · exact h.dropRun

theorem Keeps.cutShortRun (h : Keeps own l s t) : Keeps own l s t.cutShortRun := by
  unfold State.cutShortRun
  split
  · split
    · exact h.endRunWaiting _
    · exact h
  · exact h

/-! ### The channels -/

theorem Keeps.checkHeavy (h : Keeps own l s t) (i : Fin 48) : Keeps own l s (t.checkHeavy i) := by
  unfold State.checkHeavy
  dsimp only
  split
  · exact h
  next candidate =>
  have candidate : (t.entry i).state.isCandidate = true := by simpa using candidate
  have nonfree := EntryState.ne_free_of_isCandidate candidate
  split
  · next heavy =>
    split
    · have entry := t.dropRunOf_entry i i
      exact (h.dropRunOf i).stand _ (entry ▸ nonfree) nofun (fun _ => entry ▸ candidate.symm) fun _ _ _ => rfl
    · split
      · exact h.endRunWaiting _
      split
      · refine h.stand _ nonfree nofun (fun _ => candidate.symm) fun _ steady _ => ?_
        rw [heavy] at steady
        cases steady
      · exact h
  · exact h.stand _ nonfree nofun (fun _ => candidate.symm) fun _ _ _ => rfl
  all_goals exact h

theorem Keeps.handChannel (h : Keeps own l s t) (c : Fin 16) : Keeps own l s (t.handChannel c) := by
  unfold State.handChannel
  dsimp only
  split
  · exact (h.setRow _ _).setChannel (Channel.grantSwitch_desc _ _)
  · exact (h.setRow _ _).setChannel (Channel.grantSwitch_desc _ _)
  · exact (h.setRow _ _).setChannel (Channel.grantDimmer_desc _ _)
  · exact h.setRow _ _
  · exact h.setRow _ _
  · exact h

/-! ### The winners -/

/-- What an entry that wins its channel is: a candidate. -/
theorem State.wins.candidate {i : Fin 48} (h : s.wins i = true) : (s.entry i).state.isCandidate = true := by
  simp only [State.wins, State.candidate, Bool.and_eq_true] at h
  exact h.1.2.1

theorem State.exemptVerdict_candidate (s : State) (i : Fin 48) : (s.exemptVerdict i).state.isCandidate = true := by
  unfold State.exemptVerdict
  split <;> rfl

theorem State.fitVerdict_candidate (s : State) (i : Fin 48) (room : Nat) : (s.fitVerdict i room).state.isCandidate = true := by
  unfold State.fitVerdict
  dsimp only
  (repeat' split) <;> rfl

theorem State.winnerVerdict_candidate (s : State) (i : Fin 48) (shielded short : Bool) (room : Nat) :
    (s.winnerVerdict i shielded short room).state.isCandidate = true := by
  unfold State.winnerVerdict
  split
  · rfl
  split
  · rfl
  split
  · rfl
  · rfl
  all_goals
    split
    · rfl
    · exact s.fitVerdict_candidate i room

/-- A verdict written into the entry of a winner. -/
theorem Regrants.award (h : Regrants own l s t) {i : Fin 48} (hi : (t.entry i).state ≠ .free)
    (candidate : (t.entry i).fields.channel.1 < 14 → (t.entry i).state.isCandidate = true) {v : Verdict} (hv : v.state.isCandidate = true) :
    Regrants own l s (t.award i v) := by
  refine h.andThen ⟨⟨fun _ => .refl _, fun _ => rfl, fun j _ => ?_⟩, rfl⟩
  rw [State.award, t.entry_setEntry]
  split
  · next e =>
    have stood := EntryKept.stand v.reason hi (EntryState.ne_free_of_isCandidate hv) fun low => hv.trans (candidate low).symm
    exact e ▸ ⟨stood.fields, stood.owner, stood.calling, stood.free, stood.candidate⟩
  · exact .refl _

/-- The same, judged on an earlier state in which the entry wins. -/
theorem Regrants.awardWinner (h : Regrants (fun _ => False) [] s t) {i : Fin 48} (hi : s.wins i = true) {v : Verdict}
    (hv : v.state.isCandidate = true) : Regrants (fun _ => False) [] s (t.award i v) := by
  have kept := h.entries i id
  have candidate := State.wins.candidate hi
  refine h.award (fun free => ?_) (fun low => ?_) hv
  · exact EntryState.ne_free_of_isCandidate candidate (kept.free.mp free)
  · rw [kept.fields] at low
    exact (kept.candidate low).trans candidate

theorem Regrants.supersede (s : State) : Regrants (fun _ => False) [] s s.supersede := by
  refine forEach_keeps (P := Regrants (fun _ => False) [] s) _ (fun i t h => ?_) s (.refl s)
  split
  · next hc =>
    simp only [State.candidate, Bool.and_eq_true] at hc
    have kept := h.entries i id
    have candidate := hc.1.1.1
    refine h.andThen ⟨⟨fun _ => .refl _, fun _ => rfl, fun j _ => ?_⟩, rfl⟩
    rw [t.entry_stand]
    split
    · next e =>
      refine e ▸ .stand _ (fun free => ?_) nofun fun low => ?_
      · exact EntryState.ne_free_of_isCandidate candidate (kept.free.mp free)
      · rw [kept.fields] at low
        exact ((kept.candidate low).trans candidate).symm
    · exact .refl _
  · exact h

/-- Verdicts awarded one after another to winners of `s`. -/
theorem Regrants.awards {w : Nat × State → Fin 48 → Nat × State}
    (step : ∀ acc i, s.wins i = true → Regrants (fun _ => False) [] s acc.2 → Regrants (fun _ => False) [] s (w acc i).2)
    (winners : List (Fin 48)) (hw : ∀ i ∈ winners, s.wins i = true) (acc : Nat × State) (h : Regrants (fun _ => False) [] s acc.2) :
    Regrants (fun _ => False) [] s (winners.foldl w acc).2 := by
  induction winners generalizing acc with
  | nil => exact h
  | cons i winners ih =>
    have ⟨hi, rest⟩ := List.forall_mem_cons.mp hw
    exact ih rest (w acc i) (step acc i hi h)

/-- The order by class neither adds an entry nor drops one. -/
theorem State.mem_byClass {s : State} {l : List (Fin 48)} {i : Fin 48} : i ∈ s.byClass l ↔ i ∈ l := by
  have classes : ∀ c : Fin 4, c ∈ ([0, 1, 2, 3] : List (Fin 4)) := by decide
  simp only [State.byClass, List.mem_flatMap, List.mem_filter, decide_eq_true_eq]
  exact ⟨fun ⟨_, _, hi, _⟩ => hi, fun hi => ⟨_, classes _, hi, rfl⟩⟩

/-! ### The settling of the winners in three groups -/

/-- The winners of the steady channels, in ascending order (R111). -/
def State.winners (s : State) : List (Fin 48) := (indexes 48).filter fun i => s.wins i

theorem State.mem_winners {s : State} {i : Fin 48} : i ∈ s.winners ↔ s.wins i = true := by
  simp [State.winners, indexes]

/-- The exempt sum and the state once the exempt winners are settled (R113). -/
def State.afterExempt (s : State) : Nat × State :=
  (s.winners.filter fun i => s.exempt i).foldl
    (fun acc i => (acc.1 + (s.exemptVerdict i).adds, acc.2.award i (s.exemptVerdict i))) (0, s.supersede)

/-- One more winner taken under the budget that the exempt sum leaves (R110, R120). -/
def State.takeNext (s : State) (shielded : Bool) (acc : Nat × State) (i : Fin 48) : Nat × State :=
  s.takeWinner shielded (s.budget.budget < s.afterExempt.1) (s.budget.budget - s.afterExempt.1 - s.frostReserve) acc i

/-- The running total and the state once the protected winners are settled (R114). -/
def State.afterShielded (s : State) : Nat × State :=
  (s.byClass (s.winners.filter fun i => !s.exempt i && s.protectedGrant i)).foldl (s.takeNext true) (0, s.afterExempt.2)

/-- The running total and the state once every winner is settled (R115 to R120). -/
def State.afterWinners (s : State) : Nat × State :=
  (s.byClass (s.winners.filter fun i => !s.exempt i && !s.protectedGrant i)).foldl (s.takeNext false) s.afterShielded

/-- A settling of the steady winners writes the totals beside what the three groups leave (R121). -/
theorem State.settleSteady_eq (s : State) :
    s.settleSteady =
      s.afterWinners.2.setBudget
        { s.afterWinners.2.budget with
          exemptSum := s.afterExempt.1
          reserve := s.frostReserve
          steadyBudget := s.budget.budget - s.afterExempt.1 - s.frostReserve
          steadyTotal := s.afterWinners.1
          headroom := (s.budget.budget : Int) - s.afterExempt.1 - s.afterWinners.1 } := rfl

theorem State.takeNext_state (s : State) (shielded : Bool) (acc : Nat × State) (i : Fin 48) :
    ∃ short room, (s.takeNext shielded acc i).2 = acc.2.award i (s.winnerVerdict i shielded short room) := ⟨_, _, rfl⟩

theorem Regrants.takeNext (shielded : Bool) (acc : Nat × State) (i : Fin 48) (hi : s.wins i = true)
    (h : Regrants (fun _ => False) [] s acc.2) : Regrants (fun _ => False) [] s (s.takeNext shielded acc i).2 :=
  h.awardWinner hi (s.winnerVerdict_candidate _ _ _ _)

theorem Regrants.afterExempt (s : State) : Regrants (fun _ => False) [] s s.afterExempt.2 :=
  .awards (fun _ _ hi h => h.awardWinner hi (s.exemptVerdict_candidate _)) _
    (fun _ hi => State.mem_winners.mp (List.mem_of_mem_filter hi)) _ (.supersede s)

theorem Regrants.afterShielded (s : State) : Regrants (fun _ => False) [] s s.afterShielded.2 :=
  .awards (.takeNext true) _ (fun _ hi => State.mem_winners.mp (List.mem_of_mem_filter (State.mem_byClass.mp hi))) _ (.afterExempt s)

theorem Regrants.afterWinners (s : State) : Regrants (fun _ => False) [] s s.afterWinners.2 :=
  .awards (.takeNext false) _ (fun _ hi => State.mem_winners.mp (List.mem_of_mem_filter (State.mem_byClass.mp hi))) _ (.afterShielded s)

theorem Regrants.settleSteady (s : State) : Regrants (fun _ => False) [] s s.settleSteady := by
  have settled := Regrants.afterWinners s
  rw [s.settleSteady_eq]
  exact ⟨⟨settled.ports, settled.desc, settled.entries⟩, settled.terms⟩

/-! ### A pass of the re-evaluation -/

/-- What follows the settling of the winners within one re-evaluation judges none of them. -/
theorem Keeps.afterSettling (h : Keeps own l s t) :
    Keeps own l s (forEach State.handChannel (forEach State.checkHeavy t.cutShortRun)) :=
  forEach_keeps _ (fun c _ h => h.handChannel c) _ (forEach_keeps _ (fun i _ h => h.checkHeavy i) _ h.cutShortRun)

theorem Keeps.countEvaluation (h : Keeps own l s t) (n : Nat) :
    Keeps own l s (t.setBudget { t.budget with evaluations := n }) :=
  h.setBudget rfl

/-- One re-evaluation with its hand-over to the motion controller. -/
def State.pass (s : State) : State := (s.setOwed false).allocate.handMotion

/-- Of a pass, all that judges the winners is their settling. -/
theorem Keeps.pass (s : State) : Keeps (fun _ => False) [] (s.setOwed false).settleSteady s.pass := by
  unfold State.pass State.allocate
  exact ((Keeps.refl _).afterSettling.countEvaluation _).handMotion

theorem Regrants.pass (s : State) : Regrants (fun _ => False) [] s s.pass :=
  (((Keeps.refl s).setOwed false).toRegrants.andThen (.settleSteady _)).andThen (Keeps.pass s).toRegrants

theorem State.settle_succ (n : Nat) (s : State) : settle (n + 1) s = if s.owed then settle n s.pass else s := rfl

/-- What every pass keeps, the settling keeps. -/
theorem settle_keeps {P : State → Prop} (h : ∀ t, P t → P t.pass) (n : Nat) (t : State) (ht : P t) : P (settle n t) := by
  induction n generalizing t with
  | zero => exact ht
  | succ n ih =>
    rw [State.settle_succ]
    split
    · exact ih _ (h t ht)
    · exact ht

/-! ### The notices of a re-evaluation -/

theorem Keeps.noticeEntry (h : Keeps own l s t) (old : Entry) (r : Reason) (i : Fin 48) : Keeps own l s (noticeEntry old r i t) := by
  unfold Sys2Proof.Machine.noticeEntry
  dsimp only
  split
  · exact h
  split <;> split
  · exact h.postTo _ nofun
  · exact h
  · exact h.postTo _ nofun
  · exact h

theorem Keeps.noticeEntries (h : Keeps own l s t) (base : Vector Entry 48) (r : Reason) : Keeps own l s (noticeEntries base r t) :=
  forEach_keeps _ (fun i _ h => h.noticeEntry _ r i) _ h

theorem Keeps.noticeReadiness (h : Keeps own l s t) (before : Bool) : Keeps own l s (t.noticeReadiness before) := by
  unfold State.noticeReadiness
  split
  · exact h
  · exact h.postOther nofun

theorem Regrants.settle (n : Nat) (s : State) : Regrants (fun _ => False) [] s (settle n s) :=
  settle_keeps (fun t h => h.andThen (.pass t)) n s (.refl s)

/-- What follows the last pass of a re-evaluation is its notices. -/
theorem Keeps.reevaluateNotices (s : State) :
    Keeps (fun _ => False) [] (Sys2Proof.Machine.settle Config.settlePasses (s.setOwed true)) s.reevaluate := by
  unfold State.reevaluate State.reevaluateFrom
  exact ((Keeps.refl _).noticeEntries _ _).noticeReadiness _

theorem Regrants.reevaluate (s : State) : Regrants (fun _ => False) [] s s.reevaluate :=
  (((Keeps.refl s).setOwed true).toRegrants.andThen (.settle _ _)).andThen (Keeps.reevaluateNotices s).toRegrants

end Sys2Proof.Machine
end

section
/-! While the fresh level record is STALE or NEVER a re-evaluation blocks the winner of the pump channel (R116). -/

namespace Sys2Proof.Machine

open Sys2Proof

variable {own : Fin 48 → Prop} {l : List Notice} {s t : State} {i : Fin 48}

/-! ### Who wins -/

/-- What a re-evaluation keeps of an entry tells as before whether it wins its channel, off the bridges. -/
theorem Quiet.wins_eq (h : Quiet (fun _ => False) l s t) (low : (s.entry i).fields.channel.1 < 14) : t.wins i = s.wins i := by
  have fields (j : Fin 48) : (t.entry j).fields = (s.entry j).fields := (h.entries j id).fields
  have candidate (j : Fin 48) : t.candidate (s.entry i).fields.channel j = s.candidate (s.entry i).fields.channel j := by
    unfold State.candidate
    rw [fields j]
    by_cases e : (s.entry j).fields.channel = (s.entry i).fields.channel
    · rw [(h.entries j id).candidate (e ▸ low)]
    · rw [decide_eq_false e, Bool.and_false, Bool.and_false]
  have precedes (j : Fin 48) : t.precedes j i = s.precedes j i := by
    unfold State.precedes
    rw [fields j, fields i]
  simp only [State.wins, fields i, h.desc, candidate, precedes]

/-! ### The verdict on the pump channel -/

theorem State.blocking_of_freshUnsure (pump : s.frostParams.pump = some (s.entry i).fields.channel) (unsure : s.freshUnsure = true) :
    ∃ r, s.blocking i = some r := by
  unfold State.blocking
  dsimp only
  repeat' split
  any_goals exact ⟨_, rfl⟩
  next sure => exact absurd ⟨pump, unsure⟩ sure

/-- A winner that is blocked is BLOCKED whatever room the budget has. -/
theorem State.winnerVerdict_of_blocking {r : Reason} (h : s.blocking i = some r) (shielded short : Bool) (room : Nat) :
    s.winnerVerdict i shielded short room = notGranted .blocked r := by
  unfold State.winnerVerdict
  rw [h]

/-- A blocked winner is BLOCKED once it has been taken, and stays so. -/
theorem State.blocked_of_taken {r : Reason} (h : s.blocking i = some r) (shielded : Bool) (winners : List (Fin 48)) (acc : Nat × State)
    (hi : i ∈ winners ∨ (acc.2.entry i).state = .blocked) :
    ((winners.foldl (s.takeNext shielded) acc).2.entry i).state = .blocked := by
  induction winners generalizing acc with
  | nil => exact hi.resolve_left List.not_mem_nil
  | cons j winners ih =>
    refine ih _ ?_
    obtain ⟨short, room, e⟩ := s.takeNext_state shielded acc j
    have taken : ((s.takeNext shielded acc j).2.entry i).state
        = if j = i then (s.winnerVerdict j shielded short room).state else (acc.2.entry i).state := by
      rw [e, State.award, State.entry_setEntry]
      split <;> rfl
    rw [taken, List.mem_cons] at *
    by_cases hj : j = i
    · right
      rw [if_pos hj, hj, State.winnerVerdict_of_blocking h]
      rfl
    · rw [if_neg hj]
      exact hi.imp_left fun hi => hi.resolve_left fun e => hj e.symm

theorem State.not_exempt_of_level (client : 4 ≤ i.1) {n : Nat} (level : (s.entry i).fields.demand = .level n) : s.exempt i = false := by
  have h1 : i ≠ 1 := by rintro rfl; omega
  have h2 : i ≠ 2 := by rintro rfl; omega
  have h3 : i ≠ 3 := by rintro rfl; omega
  simp [State.exempt, level, h1, h2, h3]

theorem State.not_protected_of_level {n : Nat} (level : (s.entry i).fields.demand = .level n) : s.protectedGrant i = false := by
  simp [State.protectedGrant, level]

/-! ### The pump channel held -/

/-- A client's LEVEL entry that wins the pump channel, a steady one of channels 0 to 13, is BLOCKED. -/
def State.pumpHeld (s : State) : Prop :=
  ∀ i : Fin 48, 4 ≤ i.1 → s.frostParams.pump = some (s.entry i).fields.channel → (s.entry i).fields.channel.1 < 14 →
    (s.descOf i).kind.steady = true → s.wins i = true → (∃ n, (s.entry i).fields.demand = .level n) →
    (s.entry i).state = .blocked

/-- What judges no winner anew leaves the pump channel held. -/
theorem Keeps.pumpHeld (h : Keeps (fun _ => False) l s t) (params : t.frostParams = s.frostParams) (held : s.pumpHeld) : t.pumpHeld := by
  intro i client pump low steady wins level
  have fields := (h.entries i id).fields
  rw [fields] at pump low level
  rw [h.descOf id] at steady
  rw [h.wins_eq low] at wins
  exact h.blocked i id low steady (held i client (params ▸ pump) low steady wins level)

theorem State.settleSteady_pumpHeld (unsure : s.freshUnsure = true) : s.settleSteady.pumpHeld := by
  have kept := Regrants.settleSteady s
  intro i client pump low _ wins level
  have fields := (kept.entries i id).fields
  rw [fields] at pump low level
  rw [kept.wins_eq low] at wins
  rw [State.rest_frostParams s.settleSteady_rest] at pump
  obtain ⟨n, level⟩ := level
  obtain ⟨r, blocked⟩ := State.blocking_of_freshUnsure pump unsure
  have last : i ∈ s.byClass (s.winners.filter fun i => !s.exempt i && !s.protectedGrant i) := by
    rw [State.mem_byClass, List.mem_filter, State.mem_winners, State.not_exempt_of_level client level, State.not_protected_of_level level]
    exact ⟨wins, rfl⟩
  exact State.blocked_of_taken blocked false _ _ (.inl last)

theorem State.pass_rest (s : State) : s.pass.rest = s.rest := by
  simp [State.pass]

/-- The fresh level is as unsure as the measurement records and the frost parameters tell. -/
theorem State.freshUnsure_congr (hm : t.meas = s.meas) (hp : t.frostParams = s.frostParams) : t.freshUnsure = s.freshUnsure := by
  unfold State.freshUnsure State.seenFreshness State.measRec
  rw [hm, hp]

theorem State.pass_pumpHeld (unsure : s.freshUnsure = true) : s.pass.pumpHeld := by
  refine (Keeps.pass s).pumpHeld ?_ (State.settleSteady_pumpHeld unsure)
  rw [State.rest_frostParams s.pass_rest, State.rest_frostParams (State.settleSteady_rest _)]
  rfl

theorem State.settle_pumpHeld (n : Nat) (unsure : s.freshUnsure = true) (owed : s.owed = true) : (settle (n + 1) s).pumpHeld := by
  have passed (t : State) (unsure : t.freshUnsure = true) : t.pass.freshUnsure = true ∧ t.pass.pumpHeld :=
    ⟨(State.freshUnsure_congr (State.rest_meas t.pass_rest) (State.rest_frostParams t.pass_rest)).trans unsure, State.pass_pumpHeld unsure⟩
  rw [State.settle_succ, if_pos owed]
  exact (settle_keeps (P := fun t => t.freshUnsure = true ∧ t.pumpHeld) (fun t h => passed t h.1) n _ (passed s unsure)).2

/-- A re-evaluation holds the pump channel while the fresh level is unsure. -/
theorem State.reevaluate_pumpHeld (unsure : s.freshUnsure = true) : s.reevaluate.pumpHeld := by
  refine (Keeps.reevaluateNotices s).pumpHeld ?_ (State.settle_pumpHeld 127 unsure rfl)
  rw [State.reevaluate_frostParams, State.rest_frostParams (settle_rest _ _)]
  rfl

end Sys2Proof.Machine
end

section
/-! What the controllers of the internal entries keep: the arming and freeing of an entry, thermostat calling, the wind and the frost
judgement (6.1.2, 7.3, 9.5, 10.3). -/

namespace Sys2Proof.Machine

open Sys2Proof

variable {own : Fin 48 → Prop} {l : List Notice} {s t u : State}

/-! ### One entry written by its controller -/

theorem Keeps.setOwned (h : Keeps own l s t) {i : Fin 48} (hi : own i) (e : Entry) : Keeps own l s (t.setEntry i e) where
  ports := h.ports
  desc := h.desc
  entries j hj := by
    rw [t.entry_setEntry, if_neg fun same : i = j => hj (same ▸ hi)]
    exact h.entries j hj
  terms := h.terms
  blocked j hj := by
    rw [t.entry_setEntry, if_neg fun same : i = j => hj (same ▸ hi)]
    exact h.blocked j hj

theorem Keeps.endRunOfMoved (h : Keeps own l s t) (i : Fin 48) (c : Fin 16) : Keeps own l s (t.endRunOfMoved i c) := by
  unfold State.endRunOfMoved
  split
  · exact h.endRunWaiting _
  · exact h

theorem Keeps.armEntry (h : Keeps own l s t) {i : Fin 48} (hi : own i) (f : EntryFields) : Keeps own l s (t.armEntry i f) :=
  (h.endRunOfMoved i f.channel).setOwned hi _

theorem Keeps.freeEntry (h : Keeps own l s t) {i : Fin 48} (hi : own i) : Keeps own l s (t.freeEntry i) :=
  (h.dropRunOf i).setOwned hi _

/-- An armed entry is not FREE, has the fields given and the calling that it had (R98). -/
theorem State.armEntry_same (s : State) (i : Fin 48) (f : EntryFields) :
    ((s.armEntry i f).entry i).fields = f ∧ ((s.armEntry i f).entry i).state ≠ .free
      ∧ ((s.armEntry i f).entry i).calling = (s.entry i).calling := by
  have kept := ((Keeps.refl (own := fun _ => False) s).endRunOfMoved i f.channel).entries i id
  unfold State.armEntry
  dsimp only
  rw [State.entry_setEntry, if_pos rfl]
  split
  · exact ⟨rfl, nofun, kept.calling⟩
  · next standing => exact ⟨rfl, fun free => standing (.inl free), kept.calling⟩

theorem State.freeEntry_same (s : State) (i : Fin 48) : (s.freeEntry i).entry i = Sys2Proof.Machine.freeEntry := by
  rw [State.freeEntry, State.entry_setEntry, if_pos rfl]

theorem State.freeEntry_ne (s : State) {i j : Fin 48} (h : i ≠ j) : (s.freeEntry i).entry j = s.entry j := by
  rw [State.freeEntry, State.entry_setEntry, if_neg h, State.dropRunOf_entry]

/-! ### Calling (R128, R129) -/

/-- Whether entry `i` calls, judged afresh from `previous` (R128). -/
def State.calls (s : State) (i : Fin 48) (previous : Bool) : Bool :=
  match (s.entry i).fields.demand with
  | .setpoint n =>
    (s.descOf i).kind = .heavy
      && callingOf (s.seenFreshness (s.thermostat i) .temperature) (s.seenValue (s.thermostat i) .temperature) n previous
  | .none | .level _ | .motion _ => false

theorem State.judgeCalling_eq (s : State) (i : Fin 48) (previous : Bool) :
    s.judgeCalling i previous
      = if (s.entry i).state = .free then s else s.setEntry i { s.entry i with calling := s.calls i previous } := rfl

/-- Only a SETPOINT entry on a HEAVY channel calls. -/
theorem State.calls_eq_true {i : Fin 48} {previous : Bool} (h : s.calls i previous = true) :
    (s.descOf i).kind = .heavy ∧ ∃ n, (s.entry i).fields.demand = .setpoint n := by
  unfold State.calls at h
  split at h
  · next n e => exact ⟨of_decide_eq_true (Bool.and_eq_true_iff.mp h).1, n, e⟩
  all_goals cases h

/-- An entry whose temperature record is not FRESH does not call (R128). -/
theorem State.calls_of_not_fresh {i : Fin 48} (stale : s.seenFreshness (s.thermostat i) .temperature ≠ .fresh) (previous : Bool) :
    s.calls i previous = false := by
  unfold State.calls callingOf
  split
  · rw [if_pos stale, Bool.and_false]
  all_goals rfl

theorem Keeps.judgeCalling (h : Keeps own l s t) {i : Fin 48} (hi : own i) (previous : Bool) :
    Keeps own l s (t.judgeCalling i previous) := by
  rw [State.judgeCalling_eq]
  split
  · exact h
  · exact h.setOwned hi _

/-! ### The frost judgement -/

theorem Keeps.armHeater (h : Keeps own l s t) (h0 : own 0) : Keeps own l s t.armHeater := by
  unfold State.armHeater
  split
  · exact h
  · exact (h.armEntry h0 _).judgeCalling h0 _

theorem Keeps.freeHeater (h : Keeps own l s t) (h0 : own 0) : Keeps own l s t.freeHeater := by
  unfold State.freeHeater
  split
  · exact h
  · exact h.freeEntry h0

theorem Keeps.freeValve (h : Keeps own l s t) (h1 : own 1) : Keeps own l s t.freeValve := by
  unfold State.freeValve
  split
  · exact h
  · exact h.freeEntry h1

theorem Keeps.dump (h : Keeps own l s t) (h0 : own 0) (h1 : own 1) (cause : DumpCause) : Keeps own l s (t.dump cause) :=
  ((h.freeValve h1).freeHeater h0).setFrost _

/-- WATCH and HEATING, the states in which a tank too cold or unknown leads to DUMPING (R176). -/
def FrostState.guarded (st : FrostState) : Prop := st = .watch ∨ st = .heating

/-- All that one row of the table of R176 can do while no dump valve is lost. -/
theorem State.frostRow_cases (h : s.frostRow false = some t) :
    (s.frost.state.guarded ∧ ∃ cause, t = s.dump cause)
      ∨ (s.frost.state = .idle ∧ t = s.frostTo .watch)
      ∨ (s.frost.state = .watch ∧ t = s.armHeater.frostTo .heating)
      ∨ (s.frost.state = .watch ∧ s.outsideWarm = true ∧ t = s.frostTo .idle)
      ∨ (s.frost.state = .heating ∧ t = s.freeHeater.frostTo .watch)
      ∨ (s.frost.state = .dumping ∧ t = s.setFrost { s.frost with state := .drained, drainTimer := none }) := by
  have guarded : (s.frost.state = .watch || s.frost.state = .heating) = true ↔ s.frost.state.guarded := by simp [FrostState.guarded]
  unfold State.frostRow at h
  dsimp only at h
  split at h
  · next hg => exact .inl ⟨guarded.mp hg.1, _, (Option.some.inj h).symm⟩
  split at h
  · next hg => exact .inl ⟨guarded.mp hg.1, _, (Option.some.inj h).symm⟩
  split at h
  · next hg => exact .inl ⟨guarded.mp hg.1, _, (Option.some.inj h).symm⟩
  split at h
  · next lost => exact absurd lost.2 nofun
  split at h
  · next st =>
    split at h
    · exact .inr (.inl ⟨st, (Option.some.inj h).symm⟩)
    · cases h
  · next st =>
    split at h
    · exact .inr (.inr (.inl ⟨st, (Option.some.inj h).symm⟩))
    split at h
    · next warm => exact .inr (.inr (.inr (.inl ⟨st, warm.1, (Option.some.inj h).symm⟩)))
    · cases h
  · next st =>
    split at h
    · exact .inr (.inr (.inr (.inr (.inl ⟨st, (Option.some.inj h).symm⟩))))
    · cases h
  · next st =>
    split at h
    · exact .inr (.inr (.inr (.inr (.inr ⟨st, (Option.some.inj h).symm⟩))))
    · cases h
  all_goals cases h

theorem Keeps.frostRow (h : Keeps own l s t) (h0 : own 0) (h1 : own 1) (row : t.frostRow false = some u) : Keeps own l s u := by
  obtain ⟨_, cause, rfl⟩ | ⟨_, rfl⟩ | ⟨_, rfl⟩ | ⟨_, _, rfl⟩ | ⟨_, rfl⟩ | ⟨_, rfl⟩ := State.frostRow_cases row
  · exact h.dump h0 h1 cause
  · exact h.setFrost _
  · exact (h.armHeater h0).setFrost _
  · exact h.setFrost _
  · exact (h.freeHeater h0).setFrost _
  · exact h.setFrost _

/-- What the rows keep, the rows taken one after another keep. -/
theorem frostRows_keeps {P : State → Prop} (row : ∀ t u, P t → t.frostRow false = some u → P u) (n : Nat) (s : State) (hs : P s) :
    P (frostRows n false s) := by
  induction n generalizing s with
  | zero => exact hs
  | succ n ih =>
    unfold frostRows
    split
    · next t e => exact ih t (row s t hs e)
    · exact hs

/-- The FROST notice of a judgement touches the ports alone. -/
theorem State.noticeFrost_cases (s : State) (former : FrostState) :
    s.noticeFrost former = s ∨ ∃ n : Notice, n.kind ≠ .stale ∧ s.noticeFrost former = s.postAll n := by
  unfold State.noticeFrost
  split
  · exact .inl rfl
  · refine .inr ⟨_, ?_, rfl⟩
    exact nofun

/-- What the heater's causes, a row and a notice keep, the frost judgement keeps. -/
theorem State.frostJudgement_keeps {P : State → Prop} (heater : ∀ t x, P t → P (t.setFrost { t.frost with heater := x }))
    (row : ∀ t u, P t → t.frostRow false = some u → P u) (notice : ∀ t (n : Notice), n.kind ≠ .stale → P t → P (t.postAll n)) (hs : P s) :
    P s.frostJudgement := by
  have rows := frostRows_keeps row 6 _ (heater s s.heaterCauses hs)
  unfold State.frostJudgement State.judgeFrost
  obtain e | ⟨n, hn, e⟩ := State.noticeFrost_cases (frostRows 6 false (s.setFrost { s.frost with heater := s.heaterCauses })) s.frost.state
  · rw [e]
    exact rows
  · rw [e]
    exact notice _ n hn rows

theorem Keeps.frostJudgement (h : Keeps own l s t) (h0 : own 0) (h1 : own 1) : Keeps own l s t.frostJudgement :=
  State.frostJudgement_keeps (fun _ _ h => h.setFrost _) (fun _ _ h row => h.frostRow h0 h1 row) (fun _ _ hn h => h.postOther hn) h

/-! ### The wind -/

theorem Keeps.armAwning (h : Keeps own l s t) (h3 : own 3) : Keeps own l s t.armAwning := by
  unfold State.armAwning
  split
  · exact h
  · exact (h.armEntry h3 _).setOwed true

theorem Keeps.windForce (h : Keeps own l s t) (h3 : own 3) : Keeps own l s t.windForce := by
  unfold State.windForce
  split
  · exact h
  · exact h.armAwning h3

theorem Keeps.windStale (h : Keeps own l s t) (h3 : own 3) : Keeps own l s t.windStale := (h.setWind _).windForce h3

theorem Keeps.motionWork {f : State → State} (h : Keeps own l s (f s)) : Keeps own l s (motionWork f s) :=
  (h.noticeEntries _ _).noticeReadiness _

end Sys2Proof.Machine
end

section
/-! One record at a poll-period start, stage by stage (R66, R67, R64): the notice and the motion controller, the account, the calling, the
frost controller and the allocator. -/

namespace Sys2Proof.Machine

open Sys2Proof

variable {own : Fin 48 → Prop} {l : List Notice} {s t u : State} {k : Fin 24}

/-! ### Loops that know what is done -/

/-- A fold over a list without repeats, with what holds of the elements done so far. -/
theorem foldl_done {α β : Type} {P : List α → β → Prop} {f : β → α → β} (step : ∀ done a b, a ∉ done → P done b → P (done ++ [a]) (f b a))
    (rest done : List α) (b : β) (nodup : (done ++ rest).Nodup) (h : P done b) : P (done ++ rest) (rest.foldl f b) := by
  induction rest generalizing done b with
  | nil => rwa [List.append_nil]
  | cons a rest ih =>
    have fresh : a ∉ done := fun ha => (List.nodup_append.mp nodup).2.2 a ha a List.mem_cons_self rfl
    rw [List.append_cons] at nodup ⊢
    exact ih (done ++ [a]) (f b a) nodup (step done a b fresh h)

theorem forEach_done {n : Nat} {P : List (Fin n) → State → Prop} {f : Fin n → State → State}
    (step : ∀ done i t, i ∉ done → P done t → P (done ++ [i]) (f i t)) (s : State) (h : P [] s) : P (List.finRange n) (forEach f s) :=
  foldl_done (fun done i t => step done i t) (List.finRange n) [] s (List.nodup_finRange n) h

/-! ### Calling alone -/

/-- Nothing but the calling of the entries that `who` names differs. -/
structure CallsOnly (who : Fin 48 → Prop) (s t : State) : Prop where
  rest : t = { s with entries := t.entries }
  calling : ∀ i, t.entry i = { s.entry i with calling := (t.entry i).calling }
  others : ∀ i, ¬ who i → t.entry i = s.entry i

variable {who : Fin 48 → Prop}

theorem CallsOnly.refl (s : State) : CallsOnly who s s := ⟨rfl, fun _ => rfl, fun _ _ => rfl⟩

theorem CallsOnly.trans (h : CallsOnly who s t) (h' : CallsOnly who t u) : CallsOnly who s u where
  rest := by rw [h'.rest, h.rest]
  calling i := by rw [h'.calling i, h.calling i]
  others i hi := (h'.others i hi).trans (h.others i hi)

theorem CallsOnly.mono {who' : Fin 48 → Prop} (h : CallsOnly who s t) (le : ∀ i, who i → who' i) : CallsOnly who' s t :=
  ⟨h.rest, h.calling, fun i hi => h.others i fun w => hi (le i w)⟩

theorem CallsOnly.judgeCalling (s : State) {i : Fin 48} (hi : who i) (previous : Bool) : CallsOnly who s (s.judgeCalling i previous) := by
  rw [State.judgeCalling_eq]
  split
  · exact .refl s
  · refine ⟨rfl, fun j => ?_, fun j hj => ?_⟩
    · rw [s.entry_setEntry]
      split
      · next e => rw [e]
      · rfl
    · rw [s.entry_setEntry, if_neg fun same : i = j => hj (same ▸ hi)]

theorem CallsOnly.rejudge (s : State) {i : Fin 48} (hi : who i) : CallsOnly who s (s.rejudge i) := by
  unfold State.rejudge
  split
  · split
    · exact .judgeCalling s hi _
    · exact .refl s
  all_goals exact .refl s

theorem CallsOnly.judgeCabin (s : State) : CallsOnly (fun i => isClient i = true) s s.judgeCabin := by
  refine forEach_keeps (P := CallsOnly (fun i => isClient i = true) s) _ (fun i t h => ?_) s (.refl s)
  split
  · next client => exact h.trans (.rejudge t client)
  · exact h

theorem CallsOnly.fields (h : CallsOnly who s t) (i : Fin 48) : (t.entry i).fields = (s.entry i).fields := by rw [h.calling i]
theorem CallsOnly.owner (h : CallsOnly who s t) (i : Fin 48) : (t.entry i).owner = (s.entry i).owner := by rw [h.calling i]
theorem CallsOnly.state (h : CallsOnly who s t) (i : Fin 48) : (t.entry i).state = (s.entry i).state := by rw [h.calling i]
theorem CallsOnly.channels (h : CallsOnly who s t) : t.channels = s.channels := by rw [h.rest]
theorem CallsOnly.ports (h : CallsOnly who s t) : t.ports = s.ports := by rw [h.rest]
theorem CallsOnly.restEq (h : CallsOnly who s t) : t.rest = s.rest := by rw [h.rest]; rfl

theorem CallsOnly.channel (h : CallsOnly who s t) (c : Fin 16) : t.channel c = s.channel c := congrArg (vget · c) h.channels

theorem CallsOnly.descOf (h : CallsOnly who s t) (i : Fin 48) : t.descOf i = s.descOf i := by
  unfold State.descOf
  rw [h.fields, h.channel]

/-- The pump channel is held whatever calls. -/
theorem CallsOnly.pumpHeld (h : CallsOnly who s t) (held : s.pumpHeld) : t.pumpHeld := by
  have wins (i : Fin 48) : t.wins i = s.wins i := by
    simp only [State.wins, State.candidate, State.precedes, h.fields, h.state, h.channel]
  intro i client pump low steady won level
  rw [h.fields, State.rest_frostParams h.restEq] at pump
  rw [h.fields] at low level
  rw [h.descOf] at steady
  rw [wins] at won
  rw [h.state]
  exact held i client pump low steady won level

theorem State.seenFreshness_congr (h : t.meas = s.meas) (d : Option (Fin 24)) (kind : MeasKind) :
    t.seenFreshness d kind = s.seenFreshness d kind := by
  unfold State.seenFreshness State.measRec
  rw [h]

theorem State.thermostat_client (s : State) {i : Fin 48} (client : isClient i = true) : s.thermostat i = s.sched.cabin := by
  have nonzero : i ≠ 0 := by rintro rfl; cases client
  rw [State.thermostat, if_neg nonzero, if_pos client]

/-- A SETPOINT entry on a HEAVY channel does not call once it is judged while its record is not FRESH (R128). -/
theorem State.rejudge_stops {i : Fin 48} (stale : s.seenFreshness (s.thermostat i) .temperature ≠ .fresh)
    (free : (s.entry i).state ≠ .free) (heavy : (s.descOf i).kind = .heavy) (setpoint : ∃ n, (s.entry i).fields.demand = .setpoint n) :
    ((s.rejudge i).entry i).calling = false := by
  obtain ⟨n, setpoint⟩ := setpoint
  have judged : s.rejudge i = s.judgeCalling i (s.entry i).calling := by
    unfold State.rejudge
    rw [setpoint]
    exact if_pos heavy
  rw [judged, State.judgeCalling_eq, if_neg free, State.entry_setEntry, if_pos rfl]
  exact State.calls_of_not_fresh stale _

/-- Once the cabin's entries are judged, a client's SETPOINT entry on a HEAVY channel does not call while the cabin record is not FRESH. -/
theorem State.judgeCabin_stops {i : Fin 48} (client : isClient i = true) (stale : s.seenFreshness s.sched.cabin .temperature ≠ .fresh)
    (free : (s.entry i).state ≠ .free) (heavy : (s.descOf i).kind = .heavy) (setpoint : ∃ n, (s.entry i).fields.demand = .setpoint n) :
    (s.judgeCabin.entry i).calling = false := by
  refine (forEach_done (P := fun done t => CallsOnly (fun _ => True) s t ∧ (i ∈ done → (t.entry i).calling = false))
    (fun done j t _ ⟨only, judged⟩ => ?_) s ⟨.refl s, fun h => absurd h List.not_mem_nil⟩).2 (List.mem_finRange i)
  by_cases hj : j = i
  · subst hj
    rw [if_pos client]
    refine ⟨only.trans (.rejudge t trivial), fun _ => State.rejudge_stops ?_ ?_ ?_ ?_⟩
    · rw [t.thermostat_client client, State.seenFreshness_congr (State.rest_meas only.restEq), State.rest_sched only.restEq]
      exact stale
    · exact only.state j ▸ free
    · exact only.descOf j ▸ heavy
    · exact only.fields j ▸ setpoint
  · have kept : CallsOnly (· = j) t (if isClient j then t.rejudge j else t) := by
      split
      · exact .rejudge t rfl
      · exact .refl t
    refine ⟨only.trans (kept.mono fun _ _ => trivial), fun hi => ?_⟩
    have before : i ∈ done := (List.mem_append.mp hi).resolve_right fun h => hj (List.mem_singleton.mp h).symm
    rw [kept.others i fun same => hj same.symm]
    exact judged before

/-! ### The stages -/

/-- Record `k` goes STALE at this poll-period start (R66). -/
def State.lapses (s : State) (k : Fin 24) : Bool := decide ((s.measRec k).desc.address ≠ 0) && (s.measRec k).goesStale

/-- A measurement record after this poll-period start (R66). -/
def State.agedRec (s : State) (k : Fin 24) : MeasRecord :=
  if (s.measRec k).desc.address = 0 then s.measRec k else (s.measRec k).aged

/-- The STALE notice that record `k` owes (R67). -/
def State.lapseNotice (s : State) (k : Fin 24) : Notice := staleNotice k (s.measRec k).value

/-- The record aged, with its notice posted. -/
def State.goStale (s : State) (k : Fin 24) : State := (s.setMeas k (s.measRec k).aged).postAll (s.lapseNotice k)

/-- The motion controller is informed where the record is the designated WIND record (R168). -/
def State.tellMotion (s : State) (k : Fin 24) : State :=
  if s.isWindRecord k then motionEvent (fun _ => (s.goStale k).windStale) s else s.goStale k

/-- The record is the designated CURRENT record, whose lapse sets hold (R92). -/
def State.isCurrentRecord (s : State) (k : Fin 24) : Bool := s.battery.current = some k && (s.measRec k).desc.kind = .current

/-- The account is informed next (R92). -/
def State.tellAccount (s : State) (k : Fin 24) : State := if s.isCurrentRecord k then (s.tellMotion k).setHold else s.tellMotion k

/-- The calling of the record's entries is judged (R129). -/
def State.tellCalling (s : State) (k : Fin 24) : State :=
  let t := if s.sched.cabin = some k then s.judgeCabin else s
  if s.frostParams.tank = some k then t.judgeTank else t

/-- The frost controller judges where it reads the record (R175). -/
def State.tellFrost (s : State) (k : Fin 24) : State := if s.frostReads k then (s.tellCalling k).frostJudgement else s.tellCalling k

theorem State.informConsumers_eq (s : State) (k : Fin 24) (headroom : Bool) :
    s.informConsumers k headroom
      = if headroom then (s.tellFrost k).rebudget
        else if s.frostReads k ∨ s.frostParams.grey = some k then (s.tellFrost k).reevaluate else s.tellFrost k := rfl

theorem State.lapses_iff : s.lapses k = true ↔ (s.measRec k).desc.address ≠ 0 ∧ (s.measRec k).goesStale = true := by
  simp [State.lapses]

theorem State.ageRecord_of_lapse (h : s.lapses k = true) :
    s.ageRecord k = (s.tellAccount k).informConsumers k ((s.measRec k).desc.kind = .headroom) := by
  obtain ⟨bound, stale⟩ := State.lapses_iff.mp h
  have current : s.isCurrentRecord k = true ↔ s.battery.current = some k ∧ (s.measRec k).desc.kind = .current := by
    simp [State.isCurrentRecord]
  unfold State.ageRecord State.tellAccount
  simp only [current]
  rw [if_neg bound, if_neg (stale ▸ nofun)]
  rfl

/-- A record that does not lapse is aged, and nothing else is changed. -/
theorem State.ageRecord_of_keep (h : s.lapses k = false) : s.ageRecord k = s.setMeas k (s.agedRec k) := by
  unfold State.ageRecord State.agedRec
  dsimp only
  split
  · unfold State.setMeas State.measRec
    rw [vset_vget]
  · next bound =>
    have keeps : (s.measRec k).goesStale = false := by
      rw [← Bool.not_eq_true]
      exact fun stale => Bool.eq_false_iff.mp h (State.lapses_iff.mpr ⟨bound, stale⟩)
    rw [if_pos keeps]

end Sys2Proof.Machine
end

section
/-! What each stage of a lapse, and the ageing of one record as a whole, leaves of the state. -/

namespace Sys2Proof.Machine

open Sys2Proof

variable {own who : Fin 48 → Prop} {l l' : List Notice} {s t u : State} {k : Fin 24}

/-! ### The part that no re-evaluation touches -/

theorem State.judgeCabin_rest (s : State) : s.judgeCabin.rest = s.rest := (CallsOnly.judgeCabin s).restEq
theorem State.judgeTank_rest (s : State) : s.judgeTank.rest = s.rest := (CallsOnly.rejudge (who := (· = 0)) s rfl).restEq

theorem State.armHeater_rest (s : State) : s.armHeater.rest = s.rest := by
  unfold State.armHeater
  split
  · rfl
  · exact (CallsOnly.judgeCalling (who := (· = 0)) _ rfl _).restEq.trans (s.armEntry_rest _ _)

theorem State.freeHeater_rest (s : State) : s.freeHeater.rest = s.rest := by unfold State.freeHeater; split <;> simp
theorem State.freeValve_rest (s : State) : s.freeValve.rest = s.rest := by unfold State.freeValve; split <;> simp

theorem State.setFrost_rest (s : State) (x : FrostControl) : (s.setFrost x).rest = { s.rest with frost := x } := rfl

/-- Of that part a frost judgement writes the frost controller alone. -/
theorem State.frostRow_rest (row : s.frostRow false = some t) : ∃ x, t.rest = { s.rest with frost := x } := by
  obtain ⟨_, cause, rfl⟩ | ⟨_, rfl⟩ | ⟨_, rfl⟩ | ⟨_, _, rfl⟩ | ⟨_, rfl⟩ | ⟨_, rfl⟩ := State.frostRow_cases row
  · exact ⟨_, by rw [State.dump, State.setFrost_rest, State.freeHeater_rest, State.freeValve_rest]⟩
  · exact ⟨_, rfl⟩
  · exact ⟨_, by rw [State.frostTo, State.setFrost_rest, State.armHeater_rest]⟩
  · exact ⟨_, rfl⟩
  · exact ⟨_, by rw [State.frostTo, State.setFrost_rest, State.freeHeater_rest]⟩
  · exact ⟨_, rfl⟩

theorem State.frostJudgement_rest (s : State) : ∃ x, s.frostJudgement.rest = { s.rest with frost := x } := by
  refine State.frostJudgement_keeps (P := fun t => ∃ x, t.rest = { s.rest with frost := x }) ?_ ?_ ?_ ⟨s.frost, rfl⟩
  · intro t x h
    obtain ⟨_, e⟩ := h
    exact ⟨_, by rw [State.setFrost_rest, e]⟩
  · intro t u h row
    obtain ⟨_, e⟩ := h
    obtain ⟨_, e'⟩ := State.frostRow_rest row
    exact ⟨_, by rw [e', e]⟩
  · intro t n _ h
    exact h

theorem State.windStale_rest (s : State) : s.windStale.rest = { s.rest with wind := { s.wind with runCount := 0 } } := by
  rw [State.windStale, State.windForce_rest]
  rfl

/-- Of that part the notice and the motion controller write the record and the wind. -/
theorem State.tellMotion_rest (s : State) (k : Fin 24) :
    ∃ w, (s.tellMotion k).rest = { s.rest with meas := vset s.meas k (s.measRec k).aged, wind := w } := by
  unfold State.tellMotion
  split
  · exact ⟨_, by rw [motionEvent_rest, State.windStale_rest]; rfl⟩
  · exact ⟨s.wind, rfl⟩

theorem State.setHold_rest (s : State) : s.setHold.rest = { s.rest with account := { s.account with hold := true } } := by
  unfold State.setHold
  split
  · next held => rw [← held]; rfl
  · rw [State.rebudget_rest]; rfl

/-- Of that part hold is written where the record is the designated CURRENT record (R92). -/
theorem State.tellAccount_rest (s : State) (k : Fin 24) :
    ∃ w, (s.tellAccount k).rest =
      { s.rest with
        meas := vset s.meas k (s.measRec k).aged, wind := w
        account := if s.isCurrentRecord k then { s.account with hold := true } else s.account } := by
  obtain ⟨w, told⟩ := s.tellMotion_rest k
  refine ⟨w, ?_⟩
  unfold State.tellAccount
  split
  · have account : (s.tellMotion k).account = s.account := congrArg Rest.account told
    rw [State.setHold_rest, told, account]
  · exact told

theorem State.tellCalling_rest (s : State) (k : Fin 24) : (s.tellCalling k).rest = s.rest := by
  unfold State.tellCalling
  dsimp only
  split <;> split <;> simp only [State.judgeTank_rest, State.judgeCabin_rest]

theorem State.tellFrost_rest (s : State) (k : Fin 24) : ∃ x, (s.tellFrost k).rest = { s.rest with frost := x } := by
  unfold State.tellFrost
  split
  · obtain ⟨x, e⟩ := (s.tellCalling k).frostJudgement_rest
    exact ⟨x, by rw [e, State.tellCalling_rest]⟩
  · exact ⟨s.frost, s.tellCalling_rest k⟩

/-- The allocator leaves that part as it is. -/
theorem State.informConsumers_rest_eq (s : State) (k : Fin 24) (headroom : Bool) :
    (s.informConsumers k headroom).rest = (s.tellFrost k).rest := by
  rw [State.informConsumers_eq]
  split <;> [skip; split]
  · exact State.rebudget_rest _
  · exact State.reevaluate_rest _
  · rfl

theorem State.ageRecord_rest (s : State) (k : Fin 24) :
    ∃ w x, (s.ageRecord k).rest =
      { s.rest with
        meas := vset s.meas k (s.agedRec k), wind := w, frost := x
        account := if s.lapses k && s.isCurrentRecord k then { s.account with hold := true } else s.account } := by
  by_cases h : s.lapses k = true
  · obtain ⟨w, told⟩ := s.tellAccount_rest k
    obtain ⟨x, judged⟩ := (s.tellAccount k).tellFrost_rest k
    refine ⟨w, x, ?_⟩
    rw [State.ageRecord_of_lapse h, State.informConsumers_rest_eq, judged, told, h, Bool.true_and, State.agedRec,
      if_neg (State.lapses_iff.mp h).1]
  · rw [Bool.not_eq_true] at h
    refine ⟨s.wind, s.frost, ?_⟩
    rw [State.ageRecord_of_keep h, h]
    rfl

/-! ### Ports, channels and entries -/

theorem Regrants.tellMotion (s : State) (k : Fin 24) : Regrants (· = 3) [s.lapseNotice k] s (s.tellMotion k) := by
  have gone : Keeps (· = 3) [s.lapseNotice k] s (s.goStale k) := ((Keeps.refl s).setMeas k (s.measRec k).aged).postAll (s.lapseNotice k)
  unfold State.tellMotion
  split
  · have worked : Keeps (· = 3) [s.lapseNotice k] s (motionWork (fun _ => (s.goStale k).windStale) s) :=
      Keeps.motionWork (gone.windStale rfl)
    unfold motionEvent
    dsimp only
    split
    · exact worked.toRegrants.andThen ((Regrants.reevaluate _).mono fun _ h => h.elim)
    · exact worked.toRegrants
  · exact gone.toRegrants

theorem Quiet.recomputeBudget (s : State) : Quiet own [] s s.recomputeBudget :=
  ⟨fun _ => .refl _, fun _ => rfl, fun _ _ => .refl _⟩

theorem Quiet.rebudget (s : State) : Quiet own [] s s.rebudget :=
  (Quiet.recomputeBudget s).trans ((Regrants.reevaluate _).toQuiet.mono fun _ h => h.elim)

theorem Keeps.postAccount (h : Keeps own l s t) (ev : AccountEvent) : Keeps own l s (t.postAccount ev) := h.postOther nofun

theorem Quiet.setHold (s : State) : Quiet own [] s s.setHold := by
  unfold State.setHold
  split
  · exact .refl s
  · exact (((Keeps.refl s).setAccount _).postAccount _).toQuiet.andThen (.rebudget _)

theorem Quiet.tellAccount (s : State) (k : Fin 24) : Quiet (· = 3) [s.lapseNotice k] s (s.tellAccount k) := by
  have told := (Regrants.tellMotion s k).toQuiet
  unfold State.tellAccount
  split
  · exact told.andThen (.setHold _)
  · exact told

theorem CallsOnly.tellCalling (s : State) (k : Fin 24) : CallsOnly (fun _ => True) s (s.tellCalling k) := by
  have cabin : CallsOnly (fun _ => True) s (if s.sched.cabin = some k then s.judgeCabin else s) := by
    split
    · exact (CallsOnly.judgeCabin s).mono fun _ _ => trivial
    · exact .refl s
  unfold State.tellCalling
  dsimp only
  split
  · exact cabin.trans (.rejudge _ trivial)
  · exact cabin

theorem Keeps.tellFrost (s : State) (k : Fin 24) : Keeps (·.1 < 2) [] (s.tellCalling k) (s.tellFrost k) := by
  unfold State.tellFrost
  split
  · exact (Keeps.refl _).frostJudgement (by decide) (by decide)
  · exact .refl _

theorem Quiet.informConsumers (s : State) (k : Fin 24) (headroom : Bool) :
    Quiet (fun _ => False) [] (s.tellFrost k) (s.informConsumers k headroom) := by
  rw [State.informConsumers_eq]
  split <;> [skip; split]
  · exact .rebudget _
  · exact (Regrants.reevaluate _).toQuiet
  · exact .refl _

/-- What every stage keeps of the clients' entries beside the ports and the channels. -/
structure ClientsKept (l : List Notice) (s t : State) : Prop where
  ports : ∀ p, (s.port p).Hears l (t.port p)
  desc : ∀ c, (t.channel c).desc = (s.channel c).desc
  clients : ∀ i : Fin 48, 4 ≤ i.1 →
    (t.entry i).fields = (s.entry i).fields ∧ (t.entry i).owner = (s.entry i).owner
      ∧ ((t.entry i).state = .free ↔ (s.entry i).state = .free)

theorem ClientsKept.refl (s : State) : ClientsKept [] s s := ⟨fun _ => .refl _, fun _ => rfl, fun _ _ => ⟨rfl, rfl, .rfl⟩⟩

theorem ClientsKept.trans (h : ClientsKept l s t) (h' : ClientsKept l' t u) : ClientsKept (l ++ l') s u where
  ports p := (h.ports p).trans (h'.ports p)
  desc c := (h'.desc c).trans (h.desc c)
  clients i hi := by
    obtain ⟨fields, owner, free⟩ := h.clients i hi
    obtain ⟨fields', owner', free'⟩ := h'.clients i hi
    exact ⟨fields'.trans fields, owner'.trans owner, free'.trans free⟩

theorem ClientsKept.andThen (h : ClientsKept l s t) (h' : ClientsKept [] t u) : ClientsKept l s u := l.append_nil ▸ h.trans h'

theorem Quiet.clientsKept (h : Quiet own l s t) (internal : ∀ i, own i → i.1 < 4) : ClientsKept l s t where
  ports := h.ports
  desc := h.desc
  clients i hi := by
    have kept := h.entries i fun o => absurd (internal i o) (Nat.not_lt.mpr hi)
    exact ⟨kept.fields, kept.owner, kept.free⟩

theorem CallsOnly.port (h : CallsOnly who s t) (p : PortId) : t.port p = s.port p := congrArg (PerPort.get · p) h.ports

theorem CallsOnly.clientsKept (h : CallsOnly who s t) : ClientsKept [] s t where
  ports p := h.port p ▸ .refl _
  desc c := by rw [h.channel]
  clients i _ := ⟨h.fields i, h.owner i, by rw [h.state]⟩

/-- A consumer that is informed of a record leaves the clients their entries. -/
theorem ClientsKept.informConsumers (s : State) (k : Fin 24) (headroom : Bool) : ClientsKept [] s (s.informConsumers k headroom) :=
  ((CallsOnly.tellCalling s k).clientsKept.andThen ((Keeps.tellFrost s k).toQuiet.clientsKept fun _ h => by omega)).andThen
    ((Quiet.informConsumers s k headroom).clientsKept fun _ h => h.elim)

theorem ClientsKept.ageRecord (s : State) (k : Fin 24) : ClientsKept (if s.lapses k then [s.lapseNotice k] else []) s (s.ageRecord k) := by
  split
  · next h =>
    rw [State.ageRecord_of_lapse h]
    exact ((Quiet.tellAccount s k).clientsKept (by decide)).andThen (.informConsumers _ _ _)
  · next h =>
    rw [State.ageRecord_of_keep (Bool.eq_false_iff.mpr h)]
    exact ((Keeps.refl (own := fun _ => False) s).setMeas k _).toQuiet.clientsKept fun _ h => h.elim

end Sys2Proof.Machine
end

section
/-! The records aged one after another: what holds between two of them. -/

namespace Sys2Proof.Machine

open Sys2Proof

variable {own who : Fin 48 → Prop} {l l' : List Notice} {s t u : State} {j k : Fin 24} {done : List (Fin 24)}

/-! ### What holds once some records are aged -/

/-- Between two records of the poll-period start that began in `s`: those in `done` are aged, their STALE notices are posted, hold is set
where the designated CURRENT record is one that lapsed, and of the rest only the wind and the frost controller have changed. -/
structure Ageing (s : State) (done : List (Fin 24)) (t : State) : Prop where
  measRec : ∀ j, t.measRec j = if j ∈ done then s.agedRec j else s.measRec j
  clients : ClientsKept ((done.filter s.lapses).map s.lapseNotice) s t
  rest : ∃ w x, t.rest =
    { s.rest with
      meas := t.meas, wind := w, frost := x
      account := if done.any fun k => s.lapses k && s.isCurrentRecord k then { s.account with hold := true } else s.account }

theorem Ageing.refl (s : State) : Ageing s [] s := ⟨fun _ => rfl, .refl s, s.wind, s.frost, rfl⟩

section

variable (h : Ageing s done t)
include h

theorem Ageing.sched : t.sched = s.sched := by obtain ⟨_, _, e⟩ := h.rest; exact congrArg Rest.sched e
theorem Ageing.battery : t.battery = s.battery := by obtain ⟨_, _, e⟩ := h.rest; exact congrArg Rest.battery e
theorem Ageing.frostParams : t.frostParams = s.frostParams := by obtain ⟨_, _, e⟩ := h.rest; exact congrArg Rest.frostParams e

end

/-- A record that is still to be aged lapses as the first state tells. -/
theorem State.lapses_congr (h : t.measRec k = s.measRec k) : t.lapses k = s.lapses k := by unfold State.lapses; rw [h]

theorem State.ageRecord_measRec (s : State) (j k : Fin 24) : (s.ageRecord k).measRec j = if k = j then s.agedRec k else s.measRec j := by
  obtain ⟨w, x, e⟩ := s.ageRecord_rest k
  have meas : (s.ageRecord k).meas = vset s.meas k (s.agedRec k) := congrArg Rest.meas e
  rw [State.measRec, meas, vget_vset]
  rfl

theorem Ageing.step (h : Ageing s done t) (hk : k ∉ done) : Ageing s (done ++ [k]) (t.ageRecord k) := by
  have same : t.measRec k = s.measRec k := by rw [h.measRec, if_neg hk]
  have aged : t.agedRec k = s.agedRec k := by unfold State.agedRec; rw [same]
  have lapses : t.lapses k = s.lapses k := State.lapses_congr same
  have notice : t.lapseNotice k = s.lapseNotice k := by unfold State.lapseNotice; rw [same]
  have current : t.isCurrentRecord k = s.isCurrentRecord k := by unfold State.isCurrentRecord; rw [same, h.battery]
  refine ⟨fun j => ?meas, ?clients, ?rest⟩
  case meas =>
    rw [State.ageRecord_measRec, aged, h.measRec]
    by_cases e : k = j
    · rw [if_pos e, ← e, if_pos (List.mem_append.mpr (.inr List.mem_cons_self))]
    · have there : j ∈ done ++ [k] ↔ j ∈ done := by simp [Ne.symm e]
      simp only [if_neg e, there]
  case clients =>
    have posted := h.clients.trans (.ageRecord t k)
    rw [lapses, notice] at posted
    rw [List.filter_append, List.map_append, List.filter_singleton]
    cases e : s.lapses k <;> simpa [e] using posted
  case rest =>
    obtain ⟨w, x, before⟩ := h.rest
    obtain ⟨w', x', after⟩ := t.ageRecord_rest k
    have meas : (t.ageRecord k).meas = vset t.meas k (t.agedRec k) := congrArg Rest.meas after
    have account : t.account = _ := congrArg Rest.account before
    refine ⟨w', x', ?_⟩
    rw [after, before, meas, lapses, current, account, List.any_append]
    cases done.any (fun k => s.lapses k && s.isCurrentRecord k) <;> cases e : s.lapses k && s.isCurrentRecord k <;> simp [e]

/-- The 24 records aged in ascending order; irreducible, so that no proof evaluates the loop. -/
@[irreducible] def State.ageAll (s : State) : State := forEach State.ageRecord s

/-- An induction over the records, with what `Ageing` says before and after each. -/
theorem State.ageAll_induction {P : List (Fin 24) → State → Prop} (start : P [] s)
    (step : ∀ done k t, k ∉ done → Ageing s done t → Ageing s (done ++ [k]) (t.ageRecord k) → P done t → P (done ++ [k]) (t.ageRecord k)) :
    P (List.finRange 24) s.ageAll := by
  unfold State.ageAll
  exact (forEach_done (P := fun done t => Ageing s done t ∧ P done t)
    (fun done k t hk ⟨ageing, h⟩ => ⟨ageing.step hk, step done k t hk ageing (ageing.step hk) h⟩) s ⟨.refl s, start⟩).2

theorem State.ageing_ageAll (s : State) : Ageing s (List.finRange 24) s.ageAll :=
  State.ageAll_induction (P := Ageing s) (.refl s) fun _ _ _ _ _ after _ => after

/-- A loop whose property is one of the states once record `k` is aged, and holds of every later record's start. -/
theorem State.ageAll_after {before after : State → Prop} (k : Fin 24) (start : before s)
    (early : ∀ done j t, j ∉ done → j ≠ k → Ageing s done t → before t → before (t.ageRecord j))
    (turn : ∀ done t, k ∉ done → Ageing s done t → before t → after (t.ageRecord k))
    (late : ∀ done j t, j ∉ done → j ≠ k → k ∈ done → Ageing s done t → after t → after (t.ageRecord j)) : after s.ageAll := by
  refine (State.ageAll_induction (P := fun done t => (k ∉ done → before t) ∧ (k ∈ done → after t))
    ⟨fun _ => start, fun h => absurd h List.not_mem_nil⟩ fun done j t hj ageing _ h => ?_).2 (List.mem_finRange k)
  obtain ⟨hb, ha⟩ := h
  by_cases e : j = k
  · subst e
    exact ⟨fun h => absurd (List.mem_append.mpr (.inr List.mem_cons_self)) h, fun _ => turn done t hj ageing (hb hj)⟩
  · have there : k ∈ done ++ [j] ↔ k ∈ done := by simp [Ne.symm e]
    rw [there]
    exact ⟨fun h => early done j t hj e ageing (hb h), fun h => late done j t hj e h ageing (ha h)⟩

end Sys2Proof.Machine
end

section
/-! The consumers of a record that goes STALE: calling stops (R128, R129). -/

namespace Sys2Proof.Machine

open Sys2Proof

variable {own who : Fin 48 → Prop} {l l' : List Notice} {s t u : State} {j k : Fin 24} {done : List (Fin 24)} {i : Fin 48}

/-! ### What a consumer reads of a record that has lapsed -/

theorem State.aged_of_lapse (h : s.lapses k = true) : s.agedRec k = (s.measRec k).aged ∧ (s.measRec k).aged.freshness = .stale := by
  obtain ⟨bound, stale⟩ := State.lapses_iff.mp h
  exact ⟨if_neg bound, if_pos stale⟩

/-- A record that has lapsed is read as STALE, or as NEVER where another kind is called for. -/
theorem State.seenFreshness_of_stale (stale : (s.measRec k).freshness = .stale) (kind : MeasKind) :
    s.seenFreshness (some k) kind ≠ .fresh := by
  unfold State.seenFreshness
  dsimp only
  split
  · rw [stale]
    exact nofun
  · exact nofun

/-- The motion controller and the account find the record STALE already. -/
theorem State.tellAccount_stale (h : s.lapses k = true) : ((s.tellAccount k).measRec k).freshness = .stale := by
  obtain ⟨w, e⟩ := s.tellAccount_rest k
  have meas : (s.tellAccount k).meas = vset s.meas k (s.measRec k).aged := congrArg Rest.meas e
  rw [State.measRec, meas, vget_vset_same]
  exact (State.aged_of_lapse h).2

theorem Ageing.stale (h : Ageing s done t) (hk : k ∈ done) (lapse : s.lapses k = true) : (t.measRec k).freshness = .stale := by
  rw [h.measRec, if_pos hk, (State.aged_of_lapse lapse).1]
  exact (State.aged_of_lapse lapse).2

theorem Ageing.lapses (h : Ageing s done t) (hk : k ∉ done) : t.lapses k = s.lapses k :=
  State.lapses_congr (by rw [h.measRec, if_neg hk])

theorem State.tellAccount_sched (s : State) (k : Fin 24) : (s.tellAccount k).sched = s.sched := by
  obtain ⟨_, e⟩ := s.tellAccount_rest k
  exact congrArg Rest.sched e

theorem State.tellAccount_frostParams (s : State) (k : Fin 24) : (s.tellAccount k).frostParams = s.frostParams := by
  obtain ⟨_, e⟩ := s.tellAccount_rest k
  exact congrArg Rest.frostParams e

/-! ### The clients' calling -/

/-- After the calling is judged the other consumers leave a client's calling as it is. -/
theorem State.informConsumers_calling (s : State) (k : Fin 24) (headroom : Bool) (hi : 2 ≤ i.1) :
    ((s.informConsumers k headroom).entry i).calling = ((s.tellCalling k).entry i).calling := by
  have judged := ((Keeps.tellFrost s k).entries i (by omega)).calling
  have informed := ((Quiet.informConsumers s k headroom).entries i id).calling
  exact informed.trans judged

/-- Of the calling, that of a client is judged at the cabin record. -/
theorem State.tellCalling_client (s : State) (k : Fin 24) (client : i ≠ 0) :
    (s.tellCalling k).entry i = if s.sched.cabin = some k then s.judgeCabin.entry i else s.entry i := by
  have tank (t : State) : (if s.frostParams.tank = some k then t.judgeTank else t).entry i = t.entry i := by
    split
    · exact (CallsOnly.rejudge (who := (· = 0)) t rfl).others i client
    · rfl
  unfold State.tellCalling
  rw [tank]
  split <;> rfl

/-- At a record other than the cabin record the calling of the clients stays. -/
theorem State.ageRecord_calling (client : 4 ≤ i.1) (other : s.sched.cabin ≠ some k) :
    ((s.ageRecord k).entry i).calling = (s.entry i).calling := by
  have notThree : i ≠ 3 := by rintro rfl; omega
  have notZero : i ≠ 0 := by rintro rfl; omega
  by_cases h : s.lapses k = true
  · rw [State.ageRecord_of_lapse h, State.informConsumers_calling _ _ _ (by omega), State.tellCalling_client _ _ notZero,
      State.tellAccount_sched, if_neg other]
    exact ((Quiet.tellAccount s k).entries i notThree).calling
  · rw [State.ageRecord_of_keep (Bool.eq_false_iff.mpr h)]
    rfl

/-- At the lapse of the cabin record a client's SETPOINT entry on a HEAVY channel stops calling. -/
theorem State.ageRecord_stops (client : 4 ≤ i.1) (cabin : s.sched.cabin = some k) (lapse : s.lapses k = true)
    (free : (s.entry i).state ≠ .free) (heavy : (s.descOf i).kind = .heavy) (setpoint : ∃ n, (s.entry i).fields.demand = .setpoint n) :
    ((s.ageRecord k).entry i).calling = false := by
  have notThree : i ≠ 3 := by rintro rfl; omega
  have notZero : i ≠ 0 := by rintro rfl; omega
  have told := Quiet.tellAccount s k
  have kept := told.entries i notThree
  have stopped : ((s.tellAccount k).judgeCabin.entry i).calling = false := by
    refine State.judgeCabin_stops (decide_eq_true client) ?_ (fun f => free (kept.free.mp f)) ?_ ?_
    · rw [State.tellAccount_sched, cabin]
      exact State.seenFreshness_of_stale (State.tellAccount_stale lapse) _
    · rw [told.descOf notThree, heavy]
    · rw [kept.fields]
      exact setpoint
  rw [State.ageRecord_of_lapse lapse, State.informConsumers_calling _ _ _ (by omega), State.tellCalling_client _ _ notZero,
    State.tellAccount_sched, if_pos cabin]
  exact stopped

/-- Where the cabin record lapses, a client's SETPOINT entry on a HEAVY channel does not call once the records are aged (R128). -/
theorem State.ageAll_cabin (client : 4 ≤ i.1) (cabin : s.sched.cabin = some k) (lapse : s.lapses k = true)
    (free : (s.entry i).state ≠ .free) (heavy : (s.descOf i).kind = .heavy) (setpoint : ∃ n, (s.entry i).fields.demand = .setpoint n) :
    (s.ageAll.entry i).calling = false := by
  refine State.ageAll_after (before := fun _ => True) (after := fun t => (t.entry i).calling = false) k trivial
    (fun _ _ _ _ _ _ _ => trivial) (fun done t hk ageing _ => ?_)
    fun done j t _ other _ ageing silent => ?_
  · obtain ⟨fields, _, free'⟩ := ageing.clients.clients i client
    refine State.ageRecord_stops client (ageing.sched ▸ cabin) (ageing.lapses hk ▸ lapse) (fun f => free (free'.mp f)) ?_
      (fields ▸ setpoint)
    rw [State.descOf, fields, ageing.clients.desc]
    exact heavy
  · rw [State.ageRecord_calling client]
    · exact silent
    · rw [ageing.sched, cabin]
      exact fun e => other (Option.some.inj e).symm

/-! ### The calling of the heater entry -/

/-- Where entry 0 calls, it is a SETPOINT entry on a HEAVY channel that is not FREE. -/
def State.heaterCallsRightly (s : State) : Prop :=
  (s.entry 0).calling = true →
    (s.entry 0).state ≠ .free ∧ (s.descOf 0).kind = .heavy ∧ ∃ n, (s.entry 0).fields.demand = .setpoint n

theorem Quiet.heaterCallsRightly (h : Quiet own l s t) (h0 : ¬ own 0) (right : s.heaterCallsRightly) : t.heaterCallsRightly := by
  have kept := h.entries 0 h0
  intro calls
  obtain ⟨free, heavy, setpoint⟩ := right (kept.calling ▸ calls)
  exact ⟨fun f => free (kept.free.mp f), h.descOf h0 ▸ heavy, kept.fields ▸ setpoint⟩

theorem State.judgeCalling_heater (s : State) (previous : Bool) (free : (s.entry 0).state ≠ .free) :
    (s.judgeCalling 0 previous).heaterCallsRightly := by
  have only := CallsOnly.judgeCalling (who := (· = 0)) s rfl previous
  intro calls
  refine ⟨only.state 0 ▸ free, ?_⟩
  rw [only.descOf, only.fields]
  rw [State.judgeCalling_eq, if_neg free, State.entry_setEntry, if_pos rfl] at calls
  exact State.calls_eq_true calls

theorem State.rejudge_heater (right : s.heaterCallsRightly) : (s.rejudge 0).heaterCallsRightly := by
  unfold State.rejudge
  split
  · split
    · by_cases free : (s.entry 0).state = .free
      · rw [State.judgeCalling_eq, if_pos free]
        exact right
      · exact s.judgeCalling_heater _ free
    · exact right
  all_goals exact right

theorem State.heaterCallsRightly_of_not_free (s : State) (silent : (s.entry 0).calling = false) : s.heaterCallsRightly :=
  fun calls => absurd (silent.symm.trans calls) nofun

/-- Freeing the heater entry leaves it silent, or as it was. -/
theorem State.freeHeater_cases (s : State) :
    s.freeHeater = s ∨ (s.freeHeater.entry 0 = Sys2Proof.Machine.freeEntry) := by
  unfold State.freeHeater
  split
  · exact .inl rfl
  · exact .inr (s.freeEntry_same 0)

theorem State.freeHeater_heater (right : s.heaterCallsRightly) : s.freeHeater.heaterCallsRightly := by
  obtain e | e := s.freeHeater_cases
  · rw [e]
    exact right
  · exact State.heaterCallsRightly_of_not_free _ (by rw [e]; rfl)

theorem State.armHeater_heater (right : s.heaterCallsRightly) : s.armHeater.heaterCallsRightly := by
  unfold State.armHeater
  split
  · exact right
  · exact State.judgeCalling_heater _ _ (State.armEntry_same _ _ _).2.1

theorem State.freeValve_heater (right : s.heaterCallsRightly) : s.freeValve.heaterCallsRightly :=
  ((Keeps.refl (own := (· = 1)) s).freeValve rfl).toQuiet.heaterCallsRightly (by decide) right

theorem State.frostJudgement_heater (right : s.heaterCallsRightly) : s.frostJudgement.heaterCallsRightly := by
  refine State.frostJudgement_keeps (fun _ _ h => h) (fun t u h row => ?_) (fun _ _ _ h => h) right
  obtain ⟨_, cause, rfl⟩ | ⟨_, rfl⟩ | ⟨_, rfl⟩ | ⟨_, _, rfl⟩ | ⟨_, rfl⟩ | ⟨_, rfl⟩ := State.frostRow_cases row
  · exact State.freeHeater_heater (State.freeValve_heater h)
  · exact h
  · exact State.armHeater_heater h
  · exact h
  · exact State.freeHeater_heater h
  · exact h

/-- Of the calling, that of entry 0 is judged at the tank record. -/
theorem State.tellCalling_eq (s : State) (k : Fin 24) :
    ∃ t, CallsOnly (fun i => isClient i = true) s t ∧ s.tellCalling k = if s.frostParams.tank = some k then t.judgeTank else t := by
  refine ⟨if s.sched.cabin = some k then s.judgeCabin else s, ?_, rfl⟩
  split
  · exact .judgeCabin s
  · exact .refl s

theorem CallsOnly.heaterCallsRightly (h : CallsOnly who s t) (h0 : ¬ who 0) (right : s.heaterCallsRightly) : t.heaterCallsRightly := by
  unfold State.heaterCallsRightly
  rw [h.descOf, h.others 0 h0]
  exact right

theorem State.tellCalling_heater (k : Fin 24) (right : s.heaterCallsRightly) : (s.tellCalling k).heaterCallsRightly := by
  obtain ⟨t, only, e⟩ := s.tellCalling_eq k
  have kept := only.heaterCallsRightly (by decide) right
  rw [e]
  split
  · exact State.rejudge_heater kept
  · exact kept

/-- Every record's ageing leaves entry 0 calling only where it may. -/
theorem State.ageRecord_heater (k : Fin 24) (right : s.heaterCallsRightly) : (s.ageRecord k).heaterCallsRightly := by
  by_cases h : s.lapses k = true
  · have told := State.tellCalling_heater k ((Quiet.tellAccount s k).heaterCallsRightly (by decide) right)
    rw [State.ageRecord_of_lapse h]
    refine (Quiet.informConsumers _ _ _).heaterCallsRightly id ?_
    unfold State.tellFrost
    split
    · exact State.frostJudgement_heater told
    · exact told
  · rw [State.ageRecord_of_keep (Bool.eq_false_iff.mpr h)]
    exact right

/-! ### Entry 0 while the tank is not known -/

/-- Entry 0 does not call, and the tank record is not read as FRESH. -/
def State.heaterSilent (s : State) : Prop :=
  (s.entry 0).calling = false ∧ s.seenFreshness s.frostParams.tank .temperature ≠ .fresh

/-- What leaves the records and the frost parameters keeps the tank as it is read. -/
theorem State.heaterSilent_of (h : s.heaterSilent) (calling : (t.entry 0).calling = (s.entry 0).calling) (meas : t.meas = s.meas)
    (params : t.frostParams = s.frostParams) : t.heaterSilent := by
  refine ⟨calling.trans h.1, ?_⟩
  rw [State.seenFreshness_congr meas, params]
  exact h.2

theorem State.judgeCalling_silent (s : State) (previous : Bool) (h : s.heaterSilent) : (s.judgeCalling 0 previous).heaterSilent := by
  have rest := (CallsOnly.judgeCalling (who := (· = 0)) s rfl previous).restEq
  refine State.heaterSilent_of h ?_ (State.rest_meas rest) (State.rest_frostParams rest)
  rw [State.judgeCalling_eq]
  split
  · rfl
  · rw [State.entry_setEntry, if_pos rfl, h.1]
    exact State.calls_of_not_fresh h.2 previous

theorem State.armHeater_silent (h : s.heaterSilent) : s.armHeater.heaterSilent := by
  unfold State.armHeater
  split
  · exact h
  · have rest := s.armEntry_rest 0 (heaterFields s.frostParams ‹Fin 16›)
    exact State.judgeCalling_silent _ _
      (State.heaterSilent_of h (State.armEntry_same _ _ _).2.2 (State.rest_meas rest) (State.rest_frostParams rest))

theorem State.freeHeater_silent (h : s.heaterSilent) : s.freeHeater.heaterSilent := by
  refine State.heaterSilent_of h ?_ (State.rest_meas s.freeHeater_rest) (State.rest_frostParams s.freeHeater_rest)
  obtain e | e := s.freeHeater_cases
  · rw [e]
  · rw [e, h.1]
    rfl

theorem State.freeValve_silent (h : s.heaterSilent) : s.freeValve.heaterSilent :=
  State.heaterSilent_of h (((Keeps.refl (own := (· = 1)) s).freeValve rfl).entries 0 (by decide)).calling
    (State.rest_meas s.freeValve_rest) (State.rest_frostParams s.freeValve_rest)

theorem State.frostJudgement_silent (h : s.heaterSilent) : s.frostJudgement.heaterSilent := by
  refine State.frostJudgement_keeps (fun _ _ h => h) (fun t u h row => ?_) (fun _ _ _ h => h) h
  obtain ⟨_, cause, rfl⟩ | ⟨_, rfl⟩ | ⟨_, rfl⟩ | ⟨_, _, rfl⟩ | ⟨_, rfl⟩ | ⟨_, rfl⟩ := State.frostRow_cases row
  · exact State.freeHeater_silent (State.freeValve_silent h)
  · exact h
  · exact State.armHeater_silent h
  · exact h
  · exact State.freeHeater_silent h
  · exact h

/-- At the tank record entry 0 falls silent. -/
theorem State.judgeTank_silent (right : s.heaterCallsRightly) (stale : s.seenFreshness s.frostParams.tank .temperature ≠ .fresh) :
    s.judgeTank.heaterSilent := by
  by_cases calls : (s.entry 0).calling = true
  · obtain ⟨free, heavy, setpoint⟩ := right calls
    refine ⟨State.rejudge_stops stale free heavy setpoint, ?_⟩
    rw [State.seenFreshness_congr (State.rest_meas s.judgeTank_rest), State.rest_frostParams s.judgeTank_rest]
    exact stale
  · have silent : s.heaterSilent := ⟨Bool.eq_false_iff.mpr calls, stale⟩
    unfold State.judgeTank State.rejudge
    split
    · split
      · exact State.judgeCalling_silent s _ silent
      · exact silent
    all_goals exact silent

theorem State.tellCalling_silent (k : Fin 24) (h : s.heaterSilent) : (s.tellCalling k).heaterSilent := by
  obtain ⟨t, only, e⟩ := s.tellCalling_eq k
  have kept : t.heaterSilent :=
    State.heaterSilent_of h (by rw [only.others 0 (by decide)]) (State.rest_meas only.restEq) (State.rest_frostParams only.restEq)
  rw [e]
  split
  · exact State.judgeTank_silent (State.heaterCallsRightly_of_not_free t kept.1) kept.2
  · exact kept

theorem State.informConsumers_silent (k : Fin 24) (headroom : Bool) (h : (s.tellCalling k).heaterSilent) :
    (s.informConsumers k headroom).heaterSilent := by
  have judged : (s.tellFrost k).heaterSilent := by
    unfold State.tellFrost
    split
    · exact State.frostJudgement_silent h
    · exact h
  have rest := s.informConsumers_rest_eq k headroom
  exact State.heaterSilent_of judged ((Quiet.informConsumers s k headroom).entries 0 id).calling (State.rest_meas rest)
    (State.rest_frostParams rest)

/-- Where the tank record lapses, entry 0 does not call once the records are aged (R128). -/
theorem State.ageAll_tank (tank : s.frostParams.tank = some k) (lapse : s.lapses k = true) (right : s.heaterCallsRightly) :
    (s.ageAll.entry 0).calling = false := by
  refine State.ageAll_after (before := State.heaterCallsRightly) (after := fun t => (t.entry 0).calling = false) k right
    (fun _ j _ _ _ _ h => State.ageRecord_heater j h) (fun done t hk ageing right => ?_) fun done j t hj other hk ageing silent => ?_
  · have lapse : t.lapses k = true := ageing.lapses hk ▸ lapse
    have tank : (t.tellAccount k).frostParams.tank = some k := by rw [State.tellAccount_frostParams, ageing.frostParams, tank]
    rw [State.ageRecord_of_lapse lapse]
    refine (State.informConsumers_silent k _ ?_).1
    obtain ⟨u, only, e⟩ := (t.tellAccount k).tellCalling_eq k
    rw [e, if_pos tank]
    refine State.judgeTank_silent
      (only.heaterCallsRightly (by decide) ((Quiet.tellAccount t k).heaterCallsRightly (by decide) right)) ?_
    rw [State.seenFreshness_congr (State.rest_meas only.restEq), State.rest_frostParams only.restEq, tank]
    exact State.seenFreshness_of_stale (State.tellAccount_stale lapse) _
  · by_cases h : t.lapses j = true
    · rw [State.ageRecord_of_lapse h]
      refine (State.informConsumers_silent j _ (State.tellCalling_silent j ⟨?_, ?_⟩)).1
      · rw [((Quiet.tellAccount t j).entries 0 (by decide)).calling, silent]
      · have there : ((t.tellAccount j).measRec k).freshness = .stale := by
          obtain ⟨_, e⟩ := t.tellAccount_rest j
          have meas : (t.tellAccount j).meas = vset t.meas j (t.measRec j).aged := congrArg Rest.meas e
          rw [State.measRec, meas, vget_vset_ne _ _ other]
          exact ageing.stale hk lapse
        rw [State.tellAccount_frostParams, ageing.frostParams, tank]
        exact State.seenFreshness_of_stale there _
    · rw [State.ageRecord_of_keep (Bool.eq_false_iff.mpr h)]
      exact silent

end Sys2Proof.Machine
end

section
/-! The consumers of a record that goes STALE: the frost controller drains where no probe is left (R176, R178). -/

namespace Sys2Proof.Machine

open Sys2Proof

variable {own who : Fin 48 → Prop} {l l' : List Notice} {s t u : State} {j k : Fin 24} {done : List (Fin 24)} {i : Fin 48}

/-! ### The outside stays cold -/

/-- The outside is cold by its last value, or was never read (R174). -/
def State.cold (s : State) : Prop :=
  ∀ l, s.frostParams.outside = some l → (s.measRec l).desc.kind = .temperature → (s.measRec l).freshness ≠ .never →
    (s.measRec l).value ≤ s.frostParams.watchTemp

theorem State.outsideCold_iff (s : State) : s.outsideCold = true ↔ s.cold := by
  simp only [State.outsideCold, State.cold, State.seenFreshness, State.seenValue, Bool.or_eq_true]
  cases s.frostParams.outside with
  | none => simp
  | some l =>
    by_cases kind : (s.measRec l).desc.kind = .temperature
    · simp [kind, or_iff_not_imp_left]
    · simp [kind]

/-- An outside that is cold is not warm. -/
theorem State.not_outsideWarm (cold : s.outsideCold = true) : s.outsideWarm ≠ true := by
  intro warm
  obtain ⟨read, warm⟩ := Bool.and_eq_true_iff.mp warm
  obtain never | low := Bool.or_eq_true_iff.mp cold
  · exact of_decide_eq_true read (of_decide_eq_true never)
  · have low := of_decide_eq_true low
    have warm := of_decide_eq_true warm
    omega

/-- The ageing of records warms no outside. -/
theorem State.cold_of_aged (params : t.frostParams = s.frostParams)
    (aged : ∀ j, t.measRec j = s.measRec j ∨ t.measRec j = (s.measRec j).aged) (cold : s.cold) : t.cold := by
  intro j outside kind read
  rw [params] at outside ⊢
  have fresh : (s.measRec j).aged.freshness ≠ .never → (s.measRec j).freshness ≠ .never := by
    unfold MeasRecord.aged MeasRecord.goesStale
    intro read never
    simp [never] at read
  obtain e | e := aged j <;> rw [e] at kind read ⊢
  · exact cold j outside kind read
  · exact cold j outside kind (fresh read)

theorem State.agedRec_cases (s : State) (k : Fin 24) : s.agedRec k = s.measRec k ∨ s.agedRec k = (s.measRec k).aged := by
  unfold State.agedRec
  split
  · exact .inl rfl
  · exact .inr rfl

theorem Ageing.cold (h : Ageing s done t) (cold : s.cold) : t.cold := by
  refine State.cold_of_aged h.frostParams (fun j => ?_) cold
  rw [h.measRec]
  split
  · exact s.agedRec_cases j
  · exact .inl rfl

theorem State.tellAccount_meas (s : State) (k : Fin 24) : (s.tellAccount k).meas = vset s.meas k (s.measRec k).aged := by
  obtain ⟨_, e⟩ := s.tellAccount_rest k
  exact congrArg Rest.meas e

theorem State.tellCalling_cold (k : Fin 24) (cold : s.cold) : ((s.tellAccount k).tellCalling k).cold := by
  have rest := (s.tellAccount k).tellCalling_rest k
  refine State.cold_of_aged ((State.rest_frostParams rest).trans (s.tellAccount_frostParams k)) (fun j => ?_) cold
  rw [State.measRec, State.rest_meas rest, State.tellAccount_meas, vget_vset]
  split
  · next e => exact .inr (e ▸ rfl)
  · exact .inl rfl

/-! ### The rows of the judgement -/

/-- The water system is drained or draining, with the internal entries of the frost controller FREE (R177 to R179). -/
def State.dumped (s : State) : Prop :=
  (s.frost.state = .dumping ∨ s.frost.state = .drained) ∧ (s.entry 0).state = .free ∧ (s.entry 1).state = .free

theorem State.dumped_of (h : s.dumped) (frost : t.frost.state = s.frost.state)
    (free0 : (t.entry 0).state = .free ↔ (s.entry 0).state = .free)
    (free1 : (t.entry 1).state = .free ↔ (s.entry 1).state = .free) : t.dumped :=
  ⟨frost ▸ h.1, free0.mpr h.2.1, free1.mpr h.2.2⟩

theorem State.freeValve_frees (s : State) : (s.freeValve.entry 1).state = .free := by
  unfold State.freeValve
  split
  · assumption
  · rw [s.freeEntry_same]
    rfl

theorem State.freeHeater_frees (s : State) : (s.freeHeater.entry 0).state = .free := by
  unfold State.freeHeater
  split
  · assumption
  · rw [s.freeEntry_same]
    rfl

theorem State.freeHeater_valve (s : State) : s.freeHeater.entry 1 = s.entry 1 := by
  unfold State.freeHeater
  split
  · rfl
  · exact s.freeEntry_ne (by decide)

theorem State.dump_dumped (s : State) (cause : DumpCause) : (s.dump cause).dumped :=
  ⟨.inl rfl, s.freeValve.freeHeater_frees, (congrArg Entry.state s.freeValve.freeHeater_valve).trans s.freeValve_frees⟩

/-- Once dumped no row leads back, and none writes the cause. -/
theorem State.frostRow_dumped (h : s.dumped) (row : s.frostRow false = some t) : t.dumped ∧ t.frost.cause = s.frost.cause := by
  obtain ⟨state, free0, free1⟩ := h
  have drained : (s.setFrost { s.frost with state := .drained, drainTimer := none }).dumped := ⟨.inr rfl, free0, free1⟩
  obtain ⟨guarded, _⟩ | ⟨st, _⟩ | ⟨st, _⟩ | ⟨st, _⟩ | ⟨st, _⟩ | ⟨_, rfl⟩ := State.frostRow_cases row
  · unfold FrostState.guarded at guarded
    obtain st | st := guarded <;> simp [st] at state
  · simp [st] at state
  · simp [st] at state
  · simp [st] at state
  · simp [st] at state
  · exact ⟨drained, rfl⟩

/-- While the outside is cold no row leads from WATCH and HEATING to IDLE. -/
theorem State.frostRow_guarded (cold : s.outsideCold = true) (guarded : s.frost.state.guarded) (row : s.frostRow false = some t) :
    t.frost.state.guarded ∨ t.dumped := by
  obtain ⟨_, cause, rfl⟩ | ⟨st, _⟩ | ⟨_, rfl⟩ | ⟨_, warm, _⟩ | ⟨_, rfl⟩ | ⟨st, _⟩ := State.frostRow_cases row
  · exact .inr (s.dump_dumped cause)
  · simp [FrostState.guarded, st] at guarded
  · exact .inl (.inr rfl)
  · exact absurd warm (State.not_outsideWarm cold)
  · exact .inl (.inl rfl)
  · simp [FrostState.guarded, st] at guarded

/-- In WATCH and HEATING a tank that is not known leads to DUMPING where the outside is cold (R176). -/
theorem State.frostRow_noProbe (guarded : s.frost.state.guarded) (tank : s.tank = none) (cold : s.outsideCold = true) (lost : Bool) :
    s.frostRow lost = some (s.dump .noProbe) := by
  have guarded : (s.frost.state = .watch || s.frost.state = .heating) = true := by simpa [FrostState.guarded] using guarded
  unfold State.frostRow
  dsimp only
  rw [guarded, tank, cold]
  rfl

/-! ### The judgement -/

/-- WATCH, HEATING, or dumped. -/
def State.watchedOrDumped (s : State) : Prop := s.frost.state.guarded ∨ s.dumped

theorem State.watchedOrDumped_of (h : s.watchedOrDumped) (frost : t.frost.state = s.frost.state)
    (free0 : (t.entry 0).state = .free ↔ (s.entry 0).state = .free) (free1 : (t.entry 1).state = .free ↔ (s.entry 1).state = .free) :
    t.watchedOrDumped :=
  h.imp (fun g => frost ▸ g) fun d => State.dumped_of d frost free0 free1

theorem State.outsideCold_congr (rest : ∃ x, t.rest = { s.rest with frost := x }) (cold : s.outsideCold = true) : t.outsideCold = true := by
  obtain ⟨_, e⟩ := rest
  rw [State.outsideCold_iff] at cold ⊢
  have meas : t.meas = s.meas := congrArg Rest.meas e
  refine State.cold_of_aged (congrArg Rest.frostParams e) (fun j => .inl ?_) cold
  rw [State.measRec, meas]
  rfl

theorem State.frostJudgement_watchedOrDumped (cold : s.outsideCold = true) (h : s.watchedOrDumped) : s.frostJudgement.watchedOrDumped := by
  refine (State.frostJudgement_keeps (P := fun t => t.outsideCold = true ∧ t.watchedOrDumped) (fun _ _ h => h) (fun t u h row => ?_)
    (fun _ _ _ h => h) ⟨cold, h⟩).2
  obtain ⟨cold, h⟩ := h
  refine ⟨State.outsideCold_congr (State.frostRow_rest row) cold, ?_⟩
  obtain guarded | dumped := h
  · exact State.frostRow_guarded cold guarded row
  · exact .inr (State.frostRow_dumped dumped row).1

/-- The judgement of a tank that is not known, in WATCH and HEATING with the outside cold: DUMPING or on to DRAINED, for the cause NO
PROBE. -/
theorem State.frostJudgement_noProbe (guarded : s.frost.state.guarded) (tank : s.tank = none) (cold : s.outsideCold = true) :
    s.frostJudgement.dumped ∧ s.frostJudgement.frost.cause = .noProbe := by
  have first := State.frostRow_noProbe (s := s.setFrost { s.frost with heater := s.heaterCauses }) guarded tank cold false
  have rows : (frostRows 6 false (s.setFrost { s.frost with heater := s.heaterCauses })) =
      frostRows 5 false ((s.setFrost { s.frost with heater := s.heaterCauses }).dump .noProbe) := by
    rw [frostRows, first]
  have judged := frostRows_keeps (P := fun t => t.dumped ∧ t.frost.cause = .noProbe)
    (fun t u h row => by
      obtain ⟨dumped, cause⟩ := State.frostRow_dumped h.1 row
      exact ⟨dumped, cause.trans h.2⟩) 5 _ ⟨(s.setFrost { s.frost with heater := s.heaterCauses }).dump_dumped .noProbe, rfl⟩
  unfold State.frostJudgement State.judgeFrost
  rw [rows]
  obtain e | ⟨n, _, e⟩ := State.noticeFrost_cases
    (frostRows 5 false ((s.setFrost { s.frost with heater := s.heaterCauses }).dump .noProbe)) s.frost.state
  · rw [e]
    exact judged
  · rw [e]
    exact judged

theorem State.tank_eq_none (stale : s.seenFreshness s.frostParams.tank .temperature ≠ .fresh) : s.tank = none := if_neg stale

/-! ### A record aged -/

theorem State.tellAccount_frost (s : State) (k : Fin 24) : (s.tellAccount k).frost = s.frost := by
  obtain ⟨_, e⟩ := s.tellAccount_rest k
  exact congrArg Rest.frost e

/-- Up to the frost controller's own judgement a lapse leaves its state and the standing of its entries. -/
theorem State.tellCalling_frost (s : State) (k : Fin 24) :
    ((s.tellAccount k).tellCalling k).frost = s.frost
      ∧ ∀ i : Fin 48, i ≠ 3 → ((((s.tellAccount k).tellCalling k).entry i).state = .free ↔ (s.entry i).state = .free) := by
  have only := CallsOnly.tellCalling (s.tellAccount k) k
  refine ⟨(State.rest_frost only.restEq).trans (s.tellAccount_frost k), fun i hi => ?_⟩
  rw [only.state i]
  exact ((Quiet.tellAccount s k).entries i hi).free

/-- What comes after that judgement leaves both. -/
theorem State.informConsumers_frost (s : State) (k : Fin 24) (headroom : Bool) :
    (s.informConsumers k headroom).frost = (s.tellFrost k).frost
      ∧ ∀ i : Fin 48, ((s.informConsumers k headroom).entry i).state = .free ↔ ((s.tellFrost k).entry i).state = .free :=
  ⟨State.rest_frost (s.informConsumers_rest_eq k headroom), fun i => ((Quiet.informConsumers s k headroom).entries i id).free⟩

theorem State.ageRecord_watchedOrDumped (k : Fin 24) (cold : s.cold) (h : s.watchedOrDumped) : (s.ageRecord k).watchedOrDumped := by
  by_cases lapse : s.lapses k = true
  · obtain ⟨frost, free⟩ := s.tellCalling_frost k
    obtain ⟨frost', free'⟩ := (s.tellAccount k).informConsumers_frost k ((s.measRec k).desc.kind = .headroom)
    have told : ((s.tellAccount k).tellCalling k).watchedOrDumped :=
      State.watchedOrDumped_of h (by rw [frost]) (free 0 (by decide)) (free 1 (by decide))
    rw [State.ageRecord_of_lapse lapse]
    refine State.watchedOrDumped_of ?_ (by rw [frost']) (free' 0) (free' 1)
    unfold State.tellFrost
    split
    · exact State.frostJudgement_watchedOrDumped ((State.outsideCold_iff _).mpr (State.tellCalling_cold k cold)) told
    · exact told
  · rw [State.ageRecord_of_keep (Bool.eq_false_iff.mpr lapse)]
    exact h

/-- At the lapse of the tank record WATCH and HEATING end in DUMPING or DRAINED, for the cause NO PROBE. -/
theorem State.ageRecord_noProbe (tank : s.frostParams.tank = some k) (lapse : s.lapses k = true) (cold : s.cold)
    (guarded : s.frost.state.guarded) : (s.ageRecord k).dumped ∧ (s.ageRecord k).frost.cause = .noProbe := by
  obtain ⟨frost, _⟩ := s.tellCalling_frost k
  obtain ⟨frost', free'⟩ := (s.tellAccount k).informConsumers_frost k ((s.measRec k).desc.kind = .headroom)
  have rest := (s.tellAccount k).tellCalling_rest k
  have params : ((s.tellAccount k).tellCalling k).frostParams = s.frostParams :=
    (State.rest_frostParams rest).trans (s.tellAccount_frostParams k)
  have reads : (s.tellAccount k).frostReads k = true := by
    simp [State.frostReads, State.tellAccount_frostParams, tank]
  have unknown : ((s.tellAccount k).tellCalling k).tank = none := by
    refine State.tank_eq_none ?_
    rw [params, tank, State.seenFreshness_congr (State.rest_meas rest)]
    exact State.seenFreshness_of_stale (State.tellAccount_stale lapse) _
  have judged : ((s.tellAccount k).tellFrost k).dumped ∧ ((s.tellAccount k).tellFrost k).frost.cause = .noProbe := by
    rw [State.tellFrost, if_pos reads]
    exact State.frostJudgement_noProbe (frost ▸ guarded) unknown ((State.outsideCold_iff _).mpr (State.tellCalling_cold k cold))
  rw [State.ageRecord_of_lapse lapse]
  exact ⟨State.dumped_of judged.1 (by rw [frost']) (free' 0) (free' 1), frost' ▸ judged.2⟩

/-- Once dumped, the ageing of a record leaves it so. -/
theorem State.ageRecord_dumped (k : Fin 24) (h : s.dumped) : (s.ageRecord k).dumped := by
  by_cases lapse : s.lapses k = true
  · obtain ⟨frost, free⟩ := s.tellCalling_frost k
    obtain ⟨frost', free'⟩ := (s.tellAccount k).informConsumers_frost k ((s.measRec k).desc.kind = .headroom)
    have told : ((s.tellAccount k).tellCalling k).dumped :=
      State.dumped_of h (by rw [frost]) (free 0 (by decide)) (free 1 (by decide))
    rw [State.ageRecord_of_lapse lapse]
    refine State.dumped_of ?_ (by rw [frost']) (free' 0) (free' 1)
    unfold State.tellFrost
    split
    · exact State.frostJudgement_keeps (P := State.dumped) (fun _ _ h => h) (fun _ _ h row => (State.frostRow_dumped h row).1)
        (fun _ _ _ h => h) told
    · exact told
  · rw [State.ageRecord_of_keep (Bool.eq_false_iff.mpr lapse)]
    exact h

/-- Where the tank record lapses in WATCH or HEATING with the outside cold, the records once aged leave DUMPING or DRAINED. -/
theorem State.ageAll_dumped (tank : s.frostParams.tank = some k) (lapse : s.lapses k = true) (cold : s.cold)
    (guarded : s.frost.state.guarded) :
    s.ageAll.dumped := by
  refine State.ageAll_after (before := State.watchedOrDumped) (after := State.dumped) k (.inl guarded)
    (fun _ j _ _ _ ageing h => State.ageRecord_watchedOrDumped j (ageing.cold cold) h) (fun done t hk ageing h => ?_)
    fun _ j _ _ _ _ _ h => State.ageRecord_dumped j h
  obtain guarded | dumped := h
  · exact (State.ageRecord_noProbe (ageing.frostParams ▸ tank) (ageing.lapses hk ▸ lapse) (ageing.cold cold) guarded).1
  · exact State.ageRecord_dumped k dumped

/-- Where the tank record alone lapses so, the cause is NO PROBE. -/
theorem State.ageAll_noProbe (tank : s.frostParams.tank = some k) (lapse : s.lapses k = true) (alone : ∀ j, s.lapses j = true → j = k)
    (cold : s.cold) (guarded : s.frost.state.guarded) : s.ageAll.frost.cause = .noProbe := by
  have others {done : List (Fin 24)} {j : Fin 24} {t : State} (hj : j ∉ done) (other : j ≠ k) (ageing : Ageing s done t) :
      (t.ageRecord j).frost = t.frost := by
    rw [State.ageRecord_of_keep]
    · rfl
    · rw [ageing.lapses hj]
      exact Bool.eq_false_iff.mpr fun h => other (alone j h)
  refine State.ageAll_after (before := fun t => t.frost.state.guarded) (after := fun t => t.frost.cause = .noProbe) k guarded
    (fun _ _ _ hj other ageing h => ?_) (fun done t hk ageing h => ?_) fun _ _ _ hj other _ ageing h => ?_
  · rw [others hj other ageing]
    exact h
  · exact (State.ageRecord_noProbe (ageing.frostParams ▸ tank) (ageing.lapses hk ▸ lapse) (ageing.cold cold) h).2
  · rw [others hj other ageing]
    exact h

end Sys2Proof.Machine
end

section
/-! The consumers of a record that goes STALE: the budget leaves a HEADROOM record out (R106, R107), and the pump channel is held at the
fresh level record (R116). -/

namespace Sys2Proof.Machine

open Sys2Proof

variable {own who : Fin 48 → Prop} {l l' : List Notice} {s t u : State} {j k : Fin 24} {done : List (Fin 24)} {i : Fin 48}

/-! ### The budget -/

/-- S is the sum of the FRESH HEADROOM records, and B follows from S and A (R106). -/
def State.budgetCurrent (s : State) : Prop :=
  s.budget.sourceSum = s.sourceSum ∧ s.budget.budget = min s.battery.busLimit (s.budget.sourceSum + s.budget.allowance)

theorem State.recomputeBudget_current (s : State) : s.recomputeBudget.budgetCurrent := ⟨rfl, rfl⟩

/-- Where a record counts as before, S is as before. -/
theorem State.sourceSum_congr
    (same : ∀ k, ((t.measRec k).desc.kind = .headroom ∧ (t.measRec k).freshness = .fresh
      ↔ (s.measRec k).desc.kind = .headroom ∧ (s.measRec k).freshness = .fresh) ∧ (t.measRec k).value = (s.measRec k).value) :
    t.sourceSum = s.sourceSum := by
  unfold State.sourceSum
  simp only [(same _).1, (same _).2]

theorem State.budgetCurrent_of (h : s.budgetCurrent) (terms : t.budgetTerms = s.budgetTerms) (battery : t.battery = s.battery)
    (sum : t.sourceSum = s.sourceSum) : t.budgetCurrent := by
  simp only [State.budgetTerms, Prod.mk.injEq] at terms
  obtain ⟨source, allowance, budget⟩ := terms
  unfold State.budgetCurrent
  rw [source, allowance, budget, battery, sum]
  exact h

/-- What leaves the terms of the budget, the records and the battery parameters. -/
theorem Regrants.budgetCurrent (h : Regrants own l s t) (meas : t.meas = s.meas) (battery : t.battery = s.battery)
    (current : s.budgetCurrent) :
    t.budgetCurrent := by
  refine State.budgetCurrent_of current h.terms battery (State.sourceSum_congr fun k => ?_)
  have same : t.measRec k = s.measRec k := by rw [State.measRec, meas]; rfl
  rw [same]
  exact ⟨.rfl, rfl⟩

theorem State.rebudget_current (s : State) : s.rebudget.budgetCurrent :=
  (Regrants.reevaluate s.recomputeBudget).budgetCurrent (State.reevaluate_meas _) (State.reevaluate_battery _) s.recomputeBudget_current

theorem State.aged_desc (s : State) (k : Fin 24) : (s.agedRec k).desc = (s.measRec k).desc ∧ (s.agedRec k).value = (s.measRec k).value := by
  unfold State.agedRec MeasRecord.aged
  split <;> exact ⟨rfl, rfl⟩

theorem State.agedRec_freshness (h : s.lapses k = false) : (s.agedRec k).freshness = (s.measRec k).freshness := by
  unfold State.agedRec
  split
  · rfl
  · next bound =>
    have keeps : ¬ (s.measRec k).goesStale = true := fun stale => Bool.eq_false_iff.mp h (State.lapses_iff.mpr ⟨bound, stale⟩)
    exact if_neg keeps

/-- A record that is no HEADROOM record, or does not lapse, counts in S as before. -/
theorem State.sourceSum_aged (h : s.lapses k = true → (s.measRec k).desc.kind ≠ .headroom) (meas : t.meas = vset s.meas k (s.agedRec k)) :
    t.sourceSum = s.sourceSum := by
  refine State.sourceSum_congr fun j => ?_
  obtain ⟨desc, value⟩ := s.aged_desc k
  rw [State.measRec, meas, vget_vset]
  by_cases e : k = j
  · subst e
    rw [if_pos rfl, desc, value]
    refine ⟨and_congr_right fun headroom => ?_, rfl⟩
    rw [State.agedRec_freshness (Bool.eq_false_iff.mpr fun lapse => h lapse headroom)]
  · rw [if_neg e]
    exact ⟨.rfl, rfl⟩

/-- The budget stays current through the ageing of any record, and becomes so at the lapse of a HEADROOM record. -/
theorem State.ageRecord_budgetCurrent (k : Fin 24)
    (h : s.budgetCurrent ∨ (s.lapses k = true ∧ (s.measRec k).desc.kind = .headroom)) : (s.ageRecord k).budgetCurrent := by
  by_cases lapse : s.lapses k = true
  · rw [State.ageRecord_of_lapse lapse, State.informConsumers_eq]
    by_cases headroom : (s.measRec k).desc.kind = .headroom
    · rw [if_pos (decide_eq_true headroom)]
      exact State.rebudget_current _
    have current : s.budgetCurrent := h.resolve_right fun h => headroom h.2
    have moved : (s.tellMotion k).budgetCurrent := by
      obtain ⟨_, e⟩ := s.tellMotion_rest k
      have meas : (s.tellMotion k).meas = vset s.meas k (s.agedRec k) := by
        rw [(State.aged_of_lapse lapse).1]
        exact congrArg Rest.meas e
      exact State.budgetCurrent_of current (Regrants.tellMotion s k).terms (congrArg Rest.battery e)
        (State.sourceSum_aged (fun _ => headroom) meas)
    have accounted : (s.tellAccount k).budgetCurrent := by
      unfold State.tellAccount State.setHold
      split
      · split
        · exact moved
        · exact State.rebudget_current _
      · exact moved
    have called : ((s.tellAccount k).tellCalling k).budgetCurrent := by
      have only := CallsOnly.tellCalling (s.tellAccount k) k
      rw [only.rest]
      exact accounted
    have judged : ((s.tellAccount k).tellFrost k).budgetCurrent := by
      have rest := (s.tellAccount k).tellCalling_rest k
      obtain ⟨_, e⟩ := (s.tellAccount k).tellFrost_rest k
      exact (Keeps.tellFrost _ k).toRegrants.budgetCurrent ((congrArg Rest.meas e).trans (State.rest_meas rest).symm)
        ((congrArg Rest.battery e).trans (State.rest_battery rest).symm) called
    rw [if_neg (decide_eq_false headroom ▸ nofun)]
    split
    · exact (Regrants.reevaluate _).budgetCurrent (State.reevaluate_meas _) (State.reevaluate_battery _) judged
    · exact judged
  · have current : s.budgetCurrent := h.resolve_right fun h => lapse h.1
    rw [State.ageRecord_of_keep (Bool.eq_false_iff.mpr lapse)]
    exact State.budgetCurrent_of current rfl rfl (State.sourceSum_aged (fun lapses => absurd lapses lapse) rfl)

/-- Where a HEADROOM record lapses, the budget is that of the records once aged. -/
theorem State.ageAll_budgetCurrent (headroom : (s.measRec k).desc.kind = .headroom) (lapse : s.lapses k = true) :
    s.ageAll.budgetCurrent := by
  refine State.ageAll_after (before := fun _ => True) (after := State.budgetCurrent) k trivial (fun _ _ _ _ _ _ _ => trivial)
    (fun done t hk ageing _ => State.ageRecord_budgetCurrent k (.inr ⟨ageing.lapses hk ▸ lapse, ?_⟩))
    fun _ j _ _ _ _ _ h => State.ageRecord_budgetCurrent j (.inl h)
  rw [ageing.measRec, if_neg hk]
  exact headroom

/-- S as a sum over the FRESH HEADROOM records (R106). -/
theorem State.sourceSum_eq_sum (s : State) :
    s.sourceSum = (((List.finRange 24).filter fun k => (s.measRec k).desc.kind = .headroom ∧ (s.measRec k).freshness = .fresh).map
      fun k => (s.measRec k).value.toNat).sum := by
  have sums (records : List (Fin 24)) (n : Nat) :
      records.foldl
          (fun n k =>
            if (s.measRec k).desc.kind = .headroom ∧ (s.measRec k).freshness = .fresh then n + (s.measRec k).value.toNat else n) n
        = n + ((records.filter fun k => (s.measRec k).desc.kind = .headroom ∧ (s.measRec k).freshness = .fresh).map
          fun k => (s.measRec k).value.toNat).sum := by
    induction records generalizing n with
    | nil => rfl
    | cons k records ih =>
      rw [List.foldl_cons, ih]
      by_cases counts : (s.measRec k).desc.kind = .headroom ∧ (s.measRec k).freshness = .fresh
      · simp [counts, Nat.add_assoc]
      · simp [counts]
  exact (sums _ 0).trans (Nat.zero_add _)

/-! ### The pump channel -/

/-- The fresh level is unsure while its record is STALE. -/
theorem State.freshUnsure_of_stale (fresh : s.frostParams.fresh = some k) (stale : (s.measRec k).freshness = .stale) :
    s.freshUnsure = true := by
  unfold State.freshUnsure
  rw [fresh]
  exact decide_eq_true (State.seenFreshness_of_stale stale _)

theorem State.noticeEntries_owed (s : State) (base : Vector Entry 48) (r : Reason) : (noticeEntries base r s).owed = s.owed := by
  refine forEach_same State.owed _ (fun i t => ?_) s
  unfold Sys2Proof.Machine.noticeEntry
  dsimp only
  split
  · rfl
  split <;> split <;> rfl

theorem State.noticeReadiness_owed (s : State) (before : Bool) : (s.noticeReadiness before).owed = s.owed := by
  unfold State.noticeReadiness
  split <;> rfl

theorem State.motionWork_owed (f : State → State) (s : State) : (motionWork f s).owed = (f s).owed := by
  unfold motionWork
  rw [State.noticeReadiness_owed, State.noticeEntries_owed]

/-- A lapse of the wind that owes no re-evaluation has armed nothing. -/
theorem Keeps.windStale_of_not_owed (h : Keeps own l s t) (owed : t.windStale.owed = false) : Keeps own l s t.windStale := by
  have still := h.setWind { t.wind with runCount := 0 }
  unfold State.windStale State.windForce State.armAwning at owed ⊢
  split at owed
  · next setup =>
    rw [if_pos setup]
    exact still
  split at owed
  · next setup retracted =>
    rw [if_neg setup, if_pos retracted]
    exact still
  · cases owed

theorem State.tellMotion_pumpHeld (k : Fin 24) (unsure : (s.tellMotion k).freshUnsure = true) (held : s.pumpHeld) :
    (s.tellMotion k).pumpHeld := by
  have gone : Keeps (fun _ => False) [s.lapseNotice k] s (s.goStale k) :=
    ((Keeps.refl s).setMeas k (s.measRec k).aged).postAll (s.lapseNotice k)
  unfold State.tellMotion motionEvent at unsure ⊢
  dsimp only at unsure ⊢
  split at unsure
  · split at unsure
    · next wind informs =>
      rw [if_pos wind, if_pos informs]
      refine State.reevaluate_pumpHeld ?_
      rw [← unsure]
      exact (State.freshUnsure_congr (State.reevaluate_meas _) (State.reevaluate_frostParams _)).symm
    · next wind informs =>
      rw [if_pos wind, if_neg informs]
      have owed : (s.goStale k).windStale.owed = false := by
        rw [← State.motionWork_owed (fun _ => (s.goStale k).windStale) s, ← Bool.not_eq_true]
        intro owed
        simp [State.informsAllocator, owed] at informs
      have worked := Keeps.motionWork (f := fun _ => (s.goStale k).windStale) (gone.windStale_of_not_owed owed)
      refine worked.pumpHeld ?_ held
      rw [State.rest_frostParams (motionWork_rest _ _)]
      exact congrArg Rest.frostParams (s.goStale k).windStale_rest
  · next wind =>
    rw [if_neg wind]
    exact gone.pumpHeld rfl held

theorem State.rebudget_pumpHeld (unsure : s.freshUnsure = true) : s.rebudget.pumpHeld :=
  State.reevaluate_pumpHeld (s := s.recomputeBudget) unsure

theorem State.tellAccount_pumpHeld (k : Fin 24) (unsure : (s.tellMotion k).freshUnsure = true) (held : s.pumpHeld) :
    (s.tellAccount k).pumpHeld := by
  have moved := State.tellMotion_pumpHeld k unsure held
  unfold State.tellAccount State.setHold
  split
  · split
    · exact moved
    · exact State.rebudget_pumpHeld unsure
  · exact moved

/-- Whatever the frost controller judged, the re-evaluation that follows holds the pump channel. -/
theorem State.informConsumers_pumpHeld (k : Fin 24) (headroom : Bool) (unsure : s.freshUnsure = true)
    (held : s.frostReads k = true ∨ s.pumpHeld) :
    (s.informConsumers k headroom).pumpHeld := by
  have judged : (s.tellFrost k).freshUnsure = true := by
    obtain ⟨_, e⟩ := s.tellFrost_rest k
    rw [← unsure]
    exact State.freshUnsure_congr (congrArg Rest.meas e) (congrArg Rest.frostParams e)
  rw [State.informConsumers_eq]
  split
  · exact State.rebudget_pumpHeld judged
  split
  · exact State.reevaluate_pumpHeld judged
  · next unread =>
    have held := held.resolve_left fun reads => unread (.inl reads)
    have reads : ¬ s.frostReads k = true := fun reads => unread (.inl reads)
    rw [State.tellFrost, if_neg reads]
    exact (CallsOnly.tellCalling s k).pumpHeld held

theorem State.tellMotion_meas (s : State) (k : Fin 24) : (s.tellMotion k).meas = vset s.meas k (s.measRec k).aged := by
  obtain ⟨_, e⟩ := s.tellMotion_rest k
  exact congrArg Rest.meas e

theorem State.tellMotion_frostParams (s : State) (k : Fin 24) : (s.tellMotion k).frostParams = s.frostParams := by
  obtain ⟨_, e⟩ := s.tellMotion_rest k
  exact congrArg Rest.frostParams e

/-- At the lapse of the fresh level record the pump channel is held. -/
theorem State.ageRecord_holds (fresh : s.frostParams.fresh = some k) (lapse : s.lapses k = true) : (s.ageRecord k).pumpHeld := by
  have params := s.tellAccount_frostParams k
  rw [State.ageRecord_of_lapse lapse]
  refine State.informConsumers_pumpHeld k _ (State.freshUnsure_of_stale (params ▸ fresh) (State.tellAccount_stale lapse)) (.inl ?_)
  simp [State.frostReads, params, fresh]

/-- While the fresh level record is STALE the ageing of another keeps the pump channel held. -/
theorem State.ageRecord_pumpHeld (other : j ≠ k) (fresh : s.frostParams.fresh = some k) (stale : (s.measRec k).freshness = .stale)
    (held : s.pumpHeld) : (s.ageRecord j).pumpHeld := by
  by_cases lapse : s.lapses j = true
  · have unsure {t : State} (params : t.frostParams = s.frostParams) (meas : t.meas = vset s.meas j (s.measRec j).aged) :
        t.freshUnsure = true := by
      refine State.freshUnsure_of_stale (params ▸ fresh) ?_
      rw [State.measRec, meas, vget_vset_ne _ _ other]
      exact stale
    rw [State.ageRecord_of_lapse lapse]
    exact State.informConsumers_pumpHeld j _ (unsure (s.tellAccount_frostParams j) (s.tellAccount_meas j))
      (.inr (State.tellAccount_pumpHeld j (unsure (s.tellMotion_frostParams j) (s.tellMotion_meas j)) held))
  · rw [State.ageRecord_of_keep (Bool.eq_false_iff.mpr lapse)]
    exact ((Keeps.refl s).setMeas j _).pumpHeld rfl held

/-- Where the fresh level record lapses, the pump channel is held once the records are aged (R116). -/
theorem State.ageAll_pumpHeld (fresh : s.frostParams.fresh = some k) (lapse : s.lapses k = true) : s.ageAll.pumpHeld :=
  State.ageAll_after (before := fun _ => True) (after := State.pumpHeld) k trivial (fun _ _ _ _ _ _ _ => trivial)
    (fun _ _ hk ageing _ => State.ageRecord_holds (ageing.frostParams ▸ fresh) (ageing.lapses hk ▸ lapse))
    fun _ _ _ _ other hk ageing h => State.ageRecord_pumpHeld other (ageing.frostParams ▸ fresh) (ageing.stale hk lapse) h

end Sys2Proof.Machine
end

section
/-! POLL_PERIOD_START as a whole (R44, R66, R67). -/

namespace Sys2Proof.Machine

open Sys2Proof Sys2Proof.Safety

variable {s t : State} {k : Fin 24} {l : List Notice}

/-- The period counted and its timer loaded again, before any record is aged (R44). -/
def State.periodCounted (s : State) : State :=
  s.setLine { s.line with periodCount := wrapInc 65535 s.line.periodCount, pollTimer := Config.pollPeriodMs }

/-- The state that a poll-period start leaves (R44, R66). -/
def State.periodStarted (s : State) : State :=
  s.periodCounted.ageAll.setLine
    { s.periodCounted.ageAll.line with shuntDue := true, listAllowed := Config.listPollsPerPeriod, considered := 0 }

theorem exec_pollPeriodStart (s : State) : exec .pollPeriodStart s = .next s.periodStarted := by
  change execPollPeriodStart s = _
  unfold execPollPeriodStart State.periodStarted State.ageAll State.periodCounted
  dsimp only

/-- What a poll-period start leaves of the state beside the line, and what its records become. -/
theorem State.ageing_periodStarted (s : State) : Ageing s.periodCounted (List.finRange 24) s.periodCounted.ageAll :=
  s.periodCounted.ageing_ageAll

theorem State.periodStarted_line (s : State) :
    s.periodStarted.line =
      { s.line with
        periodCount := if s.line.periodCount ≥ 65535 then 0 else s.line.periodCount + 1
        pollTimer := 250, shuntDue := true, listAllowed := 6, considered := 0 } := by
  obtain ⟨_, _, e⟩ := s.ageing_periodStarted.rest
  have line : s.periodCounted.ageAll.line = s.periodCounted.line := congrArg Rest.line e
  rw [State.periodStarted, State.setLine_line, line]
  rfl

theorem State.periodStarted_measRec (s : State) (k : Fin 24) : s.periodStarted.measRec k = s.agedRec k :=
  (s.ageing_periodStarted.measRec k).trans (if_pos (List.mem_finRange k))

/-- The age and the freshness of a record written out (R66). -/
theorem State.agedRec_eq (s : State) (k : Fin 24) :
    s.agedRec k =
      if (s.measRec k).desc.address = 0 then s.measRec k
      else
        { s.measRec k with
          age := min 240 ((s.measRec k).age + 1)
          freshness :=
            if (s.measRec k).freshness = .fresh
                ∧ ((s.measRec k).desc.staleLimit < min 240 ((s.measRec k).age + 1) ∨ 240 ≤ (s.measRec k).age) then .stale
            else (s.measRec k).freshness } := by
  simp only [State.agedRec, MeasRecord.aged, MeasRecord.goesStale, Bool.and_eq_true, Bool.or_eq_true, decide_eq_true_eq]
  rfl

/-- A record lapses where it is FRESH before and STALE after the ageing. -/
theorem State.lapses_iff_freshness (s : State) (k : Fin 24) :
    s.lapses k = true ↔ (s.measRec k).freshness = .fresh ∧ (s.periodStarted.measRec k).freshness = .stale := by
  rw [State.periodStarted_measRec]
  refine ⟨fun lapse => ?_, fun ⟨fresh, stale⟩ => ?_⟩
  · obtain ⟨aged, stale⟩ := State.aged_of_lapse lapse
    have fresh := (Bool.and_eq_true_iff.mp (State.lapses_iff.mp lapse).2).1
    exact ⟨of_decide_eq_true fresh, aged ▸ stale⟩
  · by_contra keeps
    rw [State.agedRec_freshness (Bool.eq_false_iff.mpr keeps), fresh] at stale
    cases stale

/-- The notices that the ports hear, as `tells` states them. -/
theorem ClientsKept.tells (h : ClientsKept l s t) : tells s t .stale fun _ => l := by
  intro p enabled whole
  obtain ⟨_, more, e, stale⟩ := (h.ports p).2 enabled whole
  dsimp only
  rw [e, List.take_left, List.drop_left]
  exact ⟨rfl, stale⟩

theorem State.periodStarted_tells (s : State) :
    tells s s.periodStarted .stale fun _ =>
      ((List.finRange 24).filter fun k =>
        (s.measRec k).freshness = .fresh ∧ (s.periodStarted.measRec k).freshness = .stale).map fun k =>
          { kind := .stale, subject := 64 + k.1, value := ((s.measRec k).value % 65536).toNat } := by
  have heard := s.ageing_periodStarted.clients.tells
  have lapsed : (fun k => decide ((s.measRec k).freshness = .fresh ∧ (s.periodStarted.measRec k).freshness = .stale)) = s.lapses :=
    funext fun k => Bool.eq_iff_iff.mpr (decide_eq_true_iff.trans (s.lapses_iff_freshness k).symm)
  rw [lapsed]
  exact heard

/-- Hold is set where the designated CURRENT record lapses, and not otherwise (R92). -/
theorem State.periodStarted_account (s : State) :
    s.periodStarted.account =
      if ∃ k, s.lapses k = true ∧ s.isCurrentRecord k = true then { s.account with hold := true } else s.account := by
  obtain ⟨_, _, e⟩ := s.ageing_periodStarted.rest
  have any : (List.finRange 24).any (fun k => s.lapses k && s.isCurrentRecord k) = true
      ↔ ∃ k, s.lapses k = true ∧ s.isCurrentRecord k = true := by
    simp
  simp only [← any]
  exact congrArg Rest.account e

/-- Where no record lapses the records age and nothing else is changed. -/
theorem State.ageAll_of_no_lapse (none : ∀ k, s.lapses k = false) : s.ageAll = { s with meas := s.ageAll.meas } := by
  refine State.ageAll_induction (P := fun _ t => t = { s with meas := t.meas }) rfl fun done k t hk ageing _ h => ?_
  rw [State.ageRecord_of_keep ((ageing.lapses hk).trans (none k)), State.setMeas, h]

/-- The records aged where none lapses (R66). -/
theorem State.meas_of_no_lapse (none : ∀ k, s.lapses k = false) :
    s.ageAll.meas = s.meas.map fun m => if m.desc.address = 0 then m else { m with age := min 240 (m.age + 1) } := by
  refine Vector.ext fun i hi => ?_
  have aged := (s.ageing_ageAll.measRec ⟨i, hi⟩).trans (if_pos (List.mem_finRange _))
  have fresh := State.agedRec_freshness (none ⟨i, hi⟩)
  rw [Vector.getElem_map]
  refine aged.trans ?_
  change _ = if (s.measRec ⟨i, hi⟩).desc.address = 0 then s.measRec ⟨i, hi⟩ else _
  rw [State.agedRec_eq] at fresh ⊢
  split
  · rfl
  · next bound =>
    rw [if_neg bound] at fresh
    exact congrArg (fun f => { s.measRec ⟨i, hi⟩ with age := min 240 ((s.measRec ⟨i, hi⟩).age + 1), freshness := f }) fresh

theorem State.periodStarted_of_no_lapse (none : ∀ k, s.lapses k = false) :
    s.periodStarted =
      { s with
        line :=
          { s.line with
            periodCount := if s.line.periodCount ≥ 65535 then 0 else s.line.periodCount + 1
            pollTimer := 250, shuntDue := true, listAllowed := 6, considered := 0 }
        meas := s.meas.map fun m => if m.desc.address = 0 then m else { m with age := min 240 (m.age + 1) } } := by
  have counted : ∀ k, s.periodCounted.lapses k = false := none
  rw [State.periodStarted, State.ageAll_of_no_lapse counted, State.meas_of_no_lapse counted]
  rfl

/-- A record that stays within its stale limit and below the highest age does not lapse (R66). -/
theorem State.not_lapses
    (h : (s.measRec k).desc.address = 0 ∨ (s.measRec k).freshness ≠ .fresh
      ∨ ((s.measRec k).age < 240 ∧ (s.measRec k).age + 1 ≤ (s.measRec k).desc.staleLimit)) : s.lapses k = false := by
  rw [← Bool.not_eq_true, State.lapses_iff]
  rintro ⟨bound, stale⟩
  simp only [MeasRecord.goesStale, Bool.and_eq_true, Bool.or_eq_true, decide_eq_true_eq] at stale
  obtain ⟨fresh, old⟩ := stale
  obtain unbound | unread | ⟨young, within⟩ := h
  · exact bound unbound
  · exact unread fresh
  · unfold satInc at old
    omega

end Sys2Proof.Machine

namespace Sys2Proof.Proofs

open Sys2Proof Sys2Proof.Machine Sys2Proof.Safety

/-- Settles O18: the records are aged one by one under the invariant `Ageing`, and each consumer has its own property of the states before
and after the record that it reads. -/
theorem pollPeriodStartAgesTheRecords : Obligations.PollPeriodStartAgesTheRecords := by
  unfold Obligations.PollPeriodStartAgesTheRecords
  refine ⟨fun s => ⟨s.periodStarted, exec_pollPeriodStart s, s.periodStarted_line, ?_⟩, fun s keeps => ?_⟩
  · obtain ⟨_, _, rest⟩ := s.ageing_periodStarted.rest
    refine ⟨congrArg Rest.engine rest, congrArg Rest.modeCtl rest, congrArg Rest.polls rest, congrArg Rest.queue rest,
      congrArg Rest.battery rest, congrArg Rest.motionParams rest, congrArg Rest.frostParams rest, congrArg Rest.switches rest,
      congrArg Rest.sched rest, ?clients, ?records, ?hold, s.periodStarted_tells, ?consumers⟩
    case clients =>
      intro i client
      obtain ⟨fields, owner, _⟩ := s.ageing_periodStarted.clients.clients i client
      exact ⟨fields, owner⟩
    case records => exact fun k => (s.periodStarted_measRec k).trans (s.agedRec_eq k)
    case hold =>
      have lapses : (∃ k, s.battery.current = some k ∧ (s.measRec k).desc.kind = .current ∧ (s.measRec k).freshness = .fresh
          ∧ (s.periodStarted.measRec k).freshness = .stale) ↔ ∃ k, s.lapses k = true ∧ s.isCurrentRecord k = true := by
        simp only [State.lapses_iff_freshness, State.isCurrentRecord, Bool.and_eq_true, decide_eq_true_eq]
        exact exists_congr fun k => by tauto
      intro lapsesHere
      rw [show lapsesHere ↔ _ from lapses, State.periodStarted_account]
      exact ⟨fun h => if_pos h, fun h => if_neg h⟩
    case consumers =>
      intro lapses q cold headroom
      have lapses_iff (d : Option (Fin 24)) : lapses d ↔ ∃ k, d = some k ∧ s.lapses k = true := by
        simp only [State.lapses_iff_freshness]
        rfl
      simp only [lapses_iff]
      refine ⟨?cabin, ?tank, ?frost, ?budget, ?pump⟩
      case cabin =>
        rintro ⟨k, cabin, lapse⟩ i client free heavy setpoint
        exact State.ageAll_cabin (s := s.periodCounted) client cabin lapse free heavy setpoint
      case tank =>
        rintro ⟨k, tank, lapse⟩ free heavy setpoint
        exact State.ageAll_tank (s := s.periodCounted) tank lapse fun _ => ⟨free, heavy, setpoint⟩
      case frost =>
        rintro ⟨k, tank, lapse⟩ outside guarded
        obtain ⟨state, free0, free1⟩ := State.ageAll_dumped (s := s.periodCounted) tank lapse outside guarded
        refine ⟨state, free0, free1, fun alone _ => ?_⟩
        refine State.ageAll_noProbe (s := s.periodCounted) tank lapse (fun j lapsed => ?_) outside guarded
        obtain ⟨fresh, stale⟩ := (s.lapses_iff_freshness j).mp lapsed
        exact Option.some.inj ((alone j fresh stale).symm.trans tank)
      case budget =>
        rintro ⟨k, kind, _, e, lapse⟩
        obtain ⟨source, budget⟩ := State.ageAll_budgetCurrent (s := s.periodCounted) kind (Option.some.inj e ▸ lapse)
        have battery : s.periodCounted.ageAll.battery = s.battery := s.ageing_periodStarted.battery
        rw [battery] at budget
        exact ⟨source.trans (State.sourceSum_eq_sum _), budget⟩
      case pump =>
        rintro ⟨k, fresh, lapse⟩ _ c i pump low client steady wins rfl level
        have params : s.periodCounted.ageAll.frostParams = s.frostParams := s.ageing_periodStarted.frostParams
        have pump := (congrArg FrostParams.pump params).trans pump
        exact State.ageAll_pumpHeld (s := s.periodCounted) fresh lapse i client pump low steady wins level
  · rw [exec_pollPeriodStart, State.periodStarted_of_no_lapse fun k => State.not_lapses (keeps k)]

end Sys2Proof.Proofs
end

section
/-! The sum of the budget with a term for each record (R106), and the need of a demand (R108): one equation for each row of the table, with
the ceiling that the row of the dimmer takes. -/

namespace Sys2Proof.Machine

open Sys2Proof

variable {d : ChannelDescriptor} {l n m : Nat}

/-- S as a sum over all records, where a record that is not a FRESH HEADROOM record counts 0 (R106). -/
theorem State.sourceSum_eq_sum_ite (s : State) :
    s.sourceSum = ((List.finRange 24).map fun k =>
      if (s.measRec k).desc.kind = .headroom ∧ (s.measRec k).freshness = .fresh then (s.measRec k).value.toNat else 0).sum := by
  rw [State.sourceSum_eq_sum, List.sum_map_ite]
  simp

/-- The ceiling of a quotient by its two bounds: it reaches the quotient, by less than 1 (4.4). -/
theorem ceilDiv_bounds (hm : 0 < m) : n ≤ m * ceilDiv n m ∧ m * ceilDiv n m < n + m := by
  have quotient : m * ceilDiv n m + (n + m - 1) % m = n + m - 1 := Nat.div_add_mod _ _
  have remainder : (n + m - 1) % m < m := Nat.mod_lt _ hm
  omega

theorem needAt_level_of_dimmer (h : d.kind = .dimmer) : needAt d (.level l) = ceilDiv (d.nominal * l) 100 := if_pos h

theorem needAt_level_of_heavy (h : d.kind = .heavy) : needAt d (.level l) = d.nominal := by
  simp [needAt, h]

theorem needAt_level_pos (h : d.kind ≠ .dimmer) (hl : 0 < l) : needAt d (.level l) = d.nominal := by
  simp [needAt, h, hl.ne']

/-- Level 0 needs nothing on any channel but a HEAVY one: a dimmer takes the ceiling of 0, and every other load is off (R108). -/
theorem needAt_level_zero (h : d.kind ≠ .heavy) : needAt d (.level 0) = 0 := by
  by_cases dimmer : d.kind = .dimmer
  · rw [needAt_level_of_dimmer dimmer, Nat.mul_zero]
    rfl
  · simp [needAt, dimmer, h]

end Sys2Proof.Machine

namespace Sys2Proof.Proofs

open Sys2Proof Sys2Proof.Machine

/-- Settles O30: S is the sum that `State.sourceSum_eq_sum_ite` gives, A is split by the tier, and each row of R108 is its equation of
`needAt`. -/
theorem budgetHasThreePartsAndEntriesNeeds : Obligations.BudgetHasThreePartsAndEntriesNeeds := by
  unfold Obligations.BudgetHasThreePartsAndEntriesNeeds
  refine ⟨fun s => ⟨s.sourceSum_eq_sum_ite, ?allowance, rfl, rfl⟩, fun d l => ⟨?on, ?zero, ?dimmer, ?heavy, ?bridge⟩⟩
  case allowance =>
    change s.allowance = _
    unfold State.allowance
    cases s.account.tier <;> rfl
  case on =>
    rintro kind one _
    refine needAt_level_pos (fun dimmer => ?_) one
    simp [dimmer] at kind
  case zero =>
    refine fun kind => needAt_level_zero fun heavy => ?_
    simp [heavy] at kind
  case dimmer =>
    intro kind
    rw [needAt_level_of_dimmer kind]
    exact ceilDiv_bounds (by decide)
  case heavy => exact fun kind => ⟨needAt_level_of_heavy kind, fun _ => rfl⟩
  case bridge => exact fun _ => ⟨rfl, rfl, fun _ => rfl, rfl⟩

end Sys2Proof.Proofs
end
